-- ==== Sys2Proof/Word.lean ====
section
/-! DEFINITION. The words of the FX416 and the fixed-size tables its blocks keep their records in. -/

namespace Sys2Proof

/-- A window location, an argument or a result: 16 bits (00_scope.md, "Words and bytes"). -/
abbrev Word := BitVec 16

/-- One payload byte (00_scope.md, "Words and bytes"). -/
abbrev Byte := BitVec 8

/-- The four ports, indices 0 to 3 in this order (00_scope.md, "Ports"). -/
inductive Port where
  | A | B | C | D
  deriving DecidableEq, Repr

/-- One `α` for each port. -/
structure PerPort (α : Type) where
  a : α
  b : α
  c : α
  d : α
  deriving DecidableEq, Repr

/-- A table of exactly `n` records, numbered from 0. -/
structure Table (α : Type) (n : Nat) where
  cells : List α
  size : cells.length = n
  deriving DecidableEq, Repr

/-- Channels 0 to 31 (00_scope.md, "Channels and locks"). -/
abbrev ChannelId := Fin 32

/-- Locks 0 to 15 (00_scope.md, "Channels and locks"). -/
abbrev LockId := Fin 16

/-- Slot indices of every geometry: the largest, G32, has 256 slots (R1). -/
abbrev SlotId := Fin 256

end Sys2Proof
end

