-- ==== Sys2Proof/Config.lean ====
section
/-! DEFINITION. What the FX416 fixes once for all: sizes, limits and power-on settings, each with the rule that gives it.
The spec leaves no value open, so there is no free value here. -/

namespace Sys2Proof.Config

/-- Bytes of the payload store (Chapter 1). -/
abbrev storeSize : Nat := 8192

/-- Entries a delivery queue may hold (R68). -/
abbrev queueLimit : Nat := 64

/-- Requests the publish queue may hold (R50). -/
abbrev publishLimit : Nat := 8

/-- Publish credits of a port (R49). -/
abbrev credits : Nat := 4

/-- Where the counts of a subscription stop (R26). -/
abbrev countMax : Nat := 65535

/-- Points a fault or a lease expiry adds to the fault score (R128). -/
abbrev faultPoints : Nat := 8

/-- A result of this or more isolates the port (R128, R131). -/
abbrev isolationScore : Nat := 256

/-- The score of an isolated port (R131). -/
abbrev isolatedScore : Nat := 255

/-- WARNED from this score on (R129). -/
abbrev warnedScore : Nat := 96

/-- RESTRICTED from this score on (R129). -/
abbrev restrictedScore : Nat := 128

/-- The cool-down an isolation starts, in base ticks (R131). -/
abbrev coolDown : Nat := 2048

/-- The authorization counter causes a device reset instead of reaching this (R157). -/
abbrev authorizationLimit : Nat := 4096

/-- Prescale setting after power-on (R115). -/
abbrev powerOnPrescale : Nat := 25000

/-- Low watermark after power-on (R17). -/
abbrev powerOnWatermark : Nat := 8

/-- Quorum after power-on (R154). -/
abbrev powerOnQuorum : Nat := 3

/-- The depth that 0 in SUBSCRIBE's ARG1 selects (R31). -/
abbrev defaultDepth : Nat := 4

/-- The greatest subscription depth (R31). -/
abbrev depthMax : Nat := 16

end Sys2Proof.Config
end

