-- ==== Sys2Proof/Syntax.lean ====
section
/-! DEFINITION. The commands and events of the FX416: one constructor of `Instr` for each row of spec/opcode_table.json, and the
catalogue of command codes (10.5). -/

namespace Sys2Proof

/-- The commands of the catalogue in 10.5. -/
inductive Command where
  | attach | detach | queryPort | voteReset | withdrawVote | start | setGeometry | setTimebase | setQuorum | setWatermark
  | queryDevice
  | reserve | abandon | publish | collect
  | take | done | discard | readState | queryQueue
  | acquire | release | renew | cancelWait | queryLock
  | defineChannel | setChannel | subscribe | unsubscribe | suspend | resume | close | freezeChannel
  | setLease | freezeLock | queryChannel | querySubscription
  deriving DecidableEq, Repr

/-- What is reported to the port context unit (R128): the class of a response, or a lease expiry. -/
inductive ReportKind where
  /-- A command answered OK, QUEUED or CLOSE_PENDING. -/
  | success
  /-- A command answered with a refusal. -/
  | refusal
  /-- A command answered with a fault code, or a fault at a window location. -/
  | fault
  /-- Expiry of the lease of a lock the port held (R104). -/
  | leaseExpiry
  deriving DecidableEq, Repr

/-- Which of two locations of a pair: EVENT_PRIORITY at 12h and 13h, TICK_COUNT at 18h and 19h (10.1). -/
inductive Half where
  | low | high
  deriving DecidableEq, Repr

/-- The steps of the part, each whole and indivisible (spec/95_what_each_step_holds.md): one constructor per row of
spec/opcode_table.json, in its order. A catalogue command stands for its being TAKEN by its owning block from the window of the
port named; its code and arguments are the window's latched copy (R146, R147). -/
inductive Instr where
  /-- ATTACH taken from port `p` (R126). -/
  | attach (p : Port)
  /-- DETACH taken from port `p` (R127). -/
  | detach (p : Port)
  /-- QUERY_PORT taken from port `p` (R136). -/
  | queryPort (p : Port)
  /-- VOTE_RESET taken from port `p` (R156). -/
  | voteReset (p : Port)
  /-- WITHDRAW_VOTE taken from port `p` (R156). -/
  | withdrawVote (p : Port)
  /-- START taken from port `p` (R153). -/
  | start (p : Port)
  /-- SET_GEOMETRY taken from port `p` (R2). -/
  | setGeometry (p : Port)
  /-- SET_TIMEBASE taken from port `p` (R116). -/
  | setTimebase (p : Port)
  /-- SET_QUORUM taken from port `p` (R154). -/
  | setQuorum (p : Port)
  /-- SET_WATERMARK taken from port `p` (R18). -/
  | setWatermark (p : Port)
  /-- QUERY_DEVICE taken from port `p` (R155). -/
  | queryDevice (p : Port)
  /-- RESERVE taken from port `p` (R8, R9). -/
  | reserve (p : Port)
  /-- ABANDON taken from port `p` (R14). -/
  | abandon (p : Port)
  /-- PUBLISH taken from port `p` (R45, R46). -/
  | publish (p : Port)
  /-- COLLECT taken from port `p` (R60). -/
  | collect (p : Port)
  /-- TAKE taken from port `p` (R72). -/
  | take (p : Port)
  /-- DONE taken from port `p` (R75). -/
  | done (p : Port)
  /-- DISCARD taken from port `p` (R74). -/
  | discard (p : Port)
  /-- READ_STATE taken from port `p` (R88, R89). -/
  | readState (p : Port)
  /-- QUERY_QUEUE taken from port `p` (R79). -/
  | queryQueue (p : Port)
  /-- ACQUIRE taken from port `p` (R99). -/
  | acquire (p : Port)
  /-- RELEASE taken from port `p` (R101). -/
  | release (p : Port)
  /-- RENEW taken from port `p` (R105). -/
  | renew (p : Port)
  /-- CANCEL_WAIT taken from port `p` (R107). -/
  | cancelWait (p : Port)
  /-- QUERY_LOCK taken from port `p` (R108). -/
  | queryLock (p : Port)
  /-- DEFINE_CHANNEL taken from port `p` (R29). -/
  | defineChannel (p : Port)
  /-- SET_CHANNEL taken from port `p` (R30). -/
  | setChannel (p : Port)
  /-- SUBSCRIBE taken from port `p` (R31, R32). -/
  | subscribe (p : Port)
  /-- UNSUBSCRIBE taken from port `p` (R34). -/
  | unsubscribe (p : Port)
  /-- SUSPEND taken from port `p` (R35). -/
  | suspend (p : Port)
  /-- RESUME taken from port `p` (R35). -/
  | resume (p : Port)
  /-- CLOSE taken from port `p` (R36, R37). -/
  | close (p : Port)
  /-- FREEZE_CHANNEL taken from port `p` (R39). -/
  | freezeChannel (p : Port)
  /-- SET_LEASE taken from port `p` (R109). -/
  | setLease (p : Port)
  /-- FREEZE_LOCK taken from port `p` (R110). -/
  | freezeLock (p : Port)
  /-- QUERY_CHANNEL taken from port `p` (R40). -/
  | queryChannel (p : Port)
  /-- QUERY_SUBSCRIPTION taken from port `p` (R41). -/
  | querySubscription (p : Port)
  /-- A write of `w` to COMMAND of port `p` while its window is ISSUED (R148). -/
  | collision (p : Port) (w : Word)
  /-- A write of `w`, no code of the catalogue, to COMMAND of port `p` while its window is READY (R149). -/
  | unknownCommand (p : Port) (w : Word)
  /-- A write of `w` to FILL_DATA of port `p` (R11). -/
  | fillData (p : Port) (w : Word)
  /-- A write of `w` to FILL_POINTER of port `p` (R12). -/
  | fillPointer (p : Port) (w : Word)
  /-- A read of READ_DATA of port `p` (R76). -/
  | readData (p : Port)
  /-- A write of `w` to READ_POINTER of port `p` (R77). -/
  | readPointer (p : Port) (w : Word)
  /-- A write of `w` to EVENT_PENDING of port `p` (R139). -/
  | eventPending (p : Port) (w : Word)
  /-- A write of `w` to EVENT_ENABLE of port `p` (R140). -/
  | eventEnable (p : Port) (w : Word)
  /-- A write of `w` to EVENT_PRIORITY of port `p`, at 12h (`low`) or 13h (`high`) (R140). -/
  | eventPriority (p : Port) (h : Half) (w : Word)
  /-- A write of `w` to THRESHOLD of port `p` (R140). -/
  | threshold (p : Port) (w : Word)
  /-- A read of TICK_COUNT of port `p`, at 18h (`low`) or 19h (`high`) (R117). -/
  | tickCount (p : Port) (h : Half)
  /-- A write of `w` at offset `off` of port `p`'s window, an argument word or a location without behaviour (R145). -/
  | registerWrite (p : Port) (off : BitVec 6) (w : Word)
  /-- PORn becomes asserted (R152). -/
  | powerOnReset
  /-- PORn is released (R152). -/
  | pornRelease
  /-- PxRSTn of port `p` becomes asserted (R134). -/
  | portReset (p : Port)
  /-- The REFCLK cycle that completes a tick period, and its base tick (R115, R118). -/
  | baseTick
  /-- The base tick's end of the lifetime of slot `i` (R120). -/
  | lifetimeExpiry (i : SlotId)
  /-- The base tick's end of the lease of lock `l` (R104). -/
  | leaseExpiry (l : LockId)
  /-- The base tick's end of the cool-down of port `p` (R133). -/
  | coolDownExpiry (p : Port)
  /-- The base tick that would take the authorization counter to its limit (R157). -/
  | authorizationExpiry
  /-- The port context unit takes a report of kind `k` for port `p` (R128). -/
  | faultScoreReport (p : Port) (k : ReportKind)
  /-- The idle engine takes the head request (R52). -/
  | fanOutStart
  /-- The engine visits the port its cursor names (R53). -/
  | placementEvent
  /-- The engine ends the fan-out (R58). -/
  | fanOutEnd
  /-- A write of `w`, a code of the catalogue, to COMMAND of port `p` while its window is READY (R146). -/
  | commandIssue (p : Port) (w : Word)
  /-- A REFCLK cycle (R115). -/
  | refclkCycle
  deriving DecidableEq, Repr

end Sys2Proof
end

