-- ==== Sys2Proof/Decode.lean ====
section
/-! DEFINITION. The codes of the command catalogue (10.5), both ways, and `decodeTableWord`: no row of spec/opcode_table.json
gives bits, so no word spells a row. -/

namespace Sys2Proof

/-- The code of a command in the catalogue of 10.5. -/
def Command.code : Command → Byte
  | .attach => 0x01
  | .detach => 0x02
  | .queryPort => 0x03
  | .voteReset => 0x04
  | .withdrawVote => 0x05
  | .start => 0x06
  | .setGeometry => 0x07
  | .setTimebase => 0x08
  | .setQuorum => 0x09
  | .setWatermark => 0x0A
  | .queryDevice => 0x0B
  | .reserve => 0x10
  | .abandon => 0x11
  | .publish => 0x12
  | .collect => 0x13
  | .take => 0x18
  | .done => 0x19
  | .discard => 0x1A
  | .readState => 0x1B
  | .queryQueue => 0x1C
  | .acquire => 0x20
  | .release => 0x21
  | .renew => 0x22
  | .cancelWait => 0x23
  | .queryLock => 0x24
  | .defineChannel => 0x28
  | .setChannel => 0x29
  | .subscribe => 0x2A
  | .unsubscribe => 0x2B
  | .suspend => 0x2C
  | .resume => 0x2D
  | .close => 0x2E
  | .freezeChannel => 0x2F
  | .setLease => 0x30
  | .freezeLock => 0x31
  | .queryChannel => 0x32
  | .querySubscription => 0x33

/-- Every command of the catalogue, in its order. -/
def Command.all : List Command :=
  [.attach, .detach, .queryPort, .voteReset, .withdrawVote, .start, .setGeometry, .setTimebase, .setQuorum, .setWatermark,
   .queryDevice] ++
  [.reserve, .abandon, .publish, .collect, .take, .done, .discard, .readState, .queryQueue] ++
  [.acquire, .release, .renew, .cancelWait, .queryLock] ++
  [.defineChannel, .setChannel, .subscribe, .unsubscribe, .suspend, .resume, .close, .freezeChannel] ++
  [.setLease, .freezeLock, .queryChannel, .querySubscription]

/-- The command of a code, none for a code the catalogue does not list (R149). -/
def Command.ofCode (c : Byte) : Option Command := Command.all.find? fun x => x.code == c

/-- The code a word written to COMMAND carries: its low byte; the high byte is ignored (10.1). -/
def commandCode (w : Word) : Byte := w.extractLsb' 0 8

/-- The command a word spells by the table's bits. No row of spec/opcode_table.json gives bits: none, whatever the word. -/
def decodeTableWord (_nbits _w : Nat) : Option Instr := none

end Sys2Proof
end

