-- ==== Sys2Proof/Machine/Memory.lean ====
section
/-! DEFINITION. The 8192-byte payload store (Chapter 1) as a list of (address, byte) cells in one canonical form: addresses
strictly rising, no byte equal to `Memory.blank` listed. -/

namespace Sys2Proof.Machine

/-- The payload store: the cells that differ from what an unlisted address reads as. -/
abbrev Memory := List Host.Cell

/-- What an unlisted address reads as: power-on reset makes the payload store all zero bytes (R19). -/
abbrev Memory.blank : Byte := 0

/-- The byte at store address `a`. -/
def Memory.read : Memory → Nat → Byte
  | [], _ => Memory.blank
  | (b, x) :: m, a => if a = b then x else Memory.read m a

/-- The store with byte `v` at address `a`: the cell is inserted in order, replaced, or taken out where `v` is blank. -/
def Memory.write : Memory → Nat → Byte → Memory
  | [], a, v => if v = Memory.blank then [] else [(a, v)]
  | (b, x) :: m, a, v =>
    if a < b then (if v = Memory.blank then (b, x) :: m else (a, v) :: (b, x) :: m)
    else if a = b then (if v = Memory.blank then m else (a, v) :: m)
    else (b, x) :: Memory.write m a v

/-- The store with the `len` bytes from address `base` on set to zero. -/
def Memory.clear (m : Memory) (base len : Nat) : Memory := m.filter fun c => !(decide (base ≤ c.1) && decide (c.1 < base + len))

/-- The canonical form. -/
abbrev Memory.wf (m : Memory) : Prop := m.Pairwise (fun x y => x.1 < y.1) ∧ ∀ c ∈ m, c.2 ≠ Memory.blank

end Sys2Proof.Machine
end

