-- ==== Sys2Proof/Machine/Table.lean ====
section
/-! DEFINITION. Reading and writing the per-port records and the fixed-size tables. -/

namespace Sys2Proof

/-- The index of a port (00_scope.md, "Ports"). -/
def Port.index : Port → Nat
  | .A => 0
  | .B => 1
  | .C => 2
  | .D => 3

/-- The port of an index, none above 3. -/
def Port.ofIndex? (n : Nat) : Option Port :=
  match n with
  | 0 => some .A
  | 1 => some .B
  | 2 => some .C
  | 3 => some .D
  | _ => none

/-- Port order: A, B, C, D (00_scope.md, "Ports"). -/
def Port.all : List Port := [.A, .B, .C, .D]

/-- The record of port `p`. -/
def PerPort.get {α : Type} (t : PerPort α) (p : Port) : α :=
  match p with
  | .A => t.a
  | .B => t.b
  | .C => t.c
  | .D => t.d

/-- The records with that of port `p` replaced. -/
def PerPort.set {α : Type} (t : PerPort α) (p : Port) (x : α) : PerPort α :=
  match p with
  | .A => { t with a := x }
  | .B => { t with b := x }
  | .C => { t with c := x }
  | .D => { t with d := x }

/-- The records with that of port `p` changed by `f`. -/
def PerPort.modify {α : Type} (t : PerPort α) (p : Port) (f : α → α) : PerPort α := t.set p (f (t.get p))

/-- The same record at every port. -/
def PerPort.all {α : Type} (x : α) : PerPort α := ⟨x, x, x, x⟩

/-- Every port's record changed by `f`. -/
def PerPort.map {α β : Type} (f : α → β) (t : PerPort α) : PerPort β := ⟨f t.a, f t.b, f t.c, f t.d⟩

/-- The record of number `i`. -/
def Table.get {α : Type} {n : Nat} (t : Table α n) (i : Fin n) : α := t.cells[i.val]'(by rw [t.size]; exact i.isLt)

/-- The table with the record of number `i` replaced. -/
def Table.set {α : Type} {n : Nat} (t : Table α n) (i : Fin n) (x : α) : Table α n := ⟨t.cells.set i.val x, by simp [t.size]⟩

/-- The table with the record of number `i` changed by `f`. -/
def Table.modify {α : Type} {n : Nat} (t : Table α n) (i : Fin n) (f : α → α) : Table α n := t.set i (f (t.get i))

/-- The same record at every number. -/
def Table.replicate {α : Type} (n : Nat) (x : α) : Table α n := ⟨List.replicate n x, by simp⟩

/-- Every record changed by `f`. -/
def Table.map {α β : Type} {n : Nat} (f : α → β) (t : Table α n) : Table β n := ⟨t.cells.map f, by simp [t.size]⟩

/-- The numbers of a table, ascending. -/
def indices (n : Nat) : List (Fin n) := (List.range n).pmap Fin.mk fun _ h => List.mem_range.1 h

end Sys2Proof
end

