-- ==== Sys2Proof/Machine/State.lean ====
section
/-! DEFINITION. Everything the spec gives the FX416 to hold, as plain data, and the machine right after power-on reset. -/

namespace Sys2Proof.Machine

/-! ### Six-word groups, responses, events -/

/-- Six words: ARG0 to ARG5, or RESULT0 to RESULT5. A result a rule does not name is 0 (R147). -/
structure Words6 where
  w0 : Word := 0
  w1 : Word := 0
  w2 : Word := 0
  w3 : Word := 0
  w4 : Word := 0
  w5 : Word := 0
  deriving DecidableEq, Repr

/-- The response codes (10.6). -/
inductive Response where
  | ok | queued | closePending
  | busy | poolEmpty | quota | denied | empty | suspended | closed | restricted | notRunning | offline | isolated | cooling
  | leaseExpired | notWaiting | reset
  | unknownCommand | badArgument | wrongState | noChannel | notPublisher | noReservation | reservationHeld | length
  | holdEmpty | holdFull | notHolder | alreadyHolder | alreadyWaiting | staleGrant | frozen | needConfigLock | notSubscriber
  | collision | fillOverrun
  deriving DecidableEq, Repr

/-- The twelve events of a port (9.1). -/
inductive Event where
  | fault | score | leaseLost | grant | completion | queue | stateNew | lost | expired | channel | poolLow | vote
  deriving DecidableEq, Repr

/-! ### The slot pool (Chapter 1) -/

/-- The divisions of the payload store (1.1). -/
inductive Geometry where
  | g32 | g64 | g128
  deriving DecidableEq, Repr

/-- States of a slot that carries a message (1.2). -/
inductive MessagePhase where
  | pending | spreading | live | expired
  deriving DecidableEq, Repr

/-- The fields a slot record has from acceptance of PUBLISH until the slot is freed (R3). -/
structure Message where
  phase : MessagePhase
  channel : ChannelId
  account : Port
  seq : Word
  tag : Word
  length : Nat
  lifetime : Option Nat
  deriving DecidableEq, Repr

/-- A slot's state with the fields present in it (R3): a FREE slot has none, a FILLING one its channel and account port. -/
inductive SlotUse where
  | free
  | filling (channel : ChannelId) (account : Port)
  | message (m : Message)
  deriving DecidableEq, Repr

/-- A slot record without its payload, which stands in the payload store (R1, R3). -/
structure Slot where
  use : SlotUse
  refs : Nat
  deriving DecidableEq, Repr

/-! ### Channels and subscriptions (Chapters 2 and 5) -/

/-- The two channel kinds (R22). -/
inductive ChannelKind where
  | stream | state
  deriving DecidableEq, Repr

/-- States of a defined channel (R22); a channel without a definition is UNUSED. -/
inductive ChannelPhase where
  | active | suspended | closing
  deriving DecidableEq, Repr

/-- Overflow policies (R24). -/
inductive Policy where
  | keepOldest | keepNewest
  deriving DecidableEq, Repr

/-- A subscription record (R24). -/
structure Subscription where
  depth : Nat
  policy : Policy
  tagMatch : Word
  tagMask : Word
  lost : Nat
  expired : Nat
  superseded : Nat
  new : Bool
  deriving DecidableEq, Repr

/-- What a channel has while it is not UNUSED (R22), and its current value (R84). The publisher set has port A in the lowest
position (R29). -/
structure ChannelDef where
  phase : ChannelPhase
  kind : ChannelKind
  publishers : BitVec 4
  lifetime : Nat
  subs : PerPort (Option Subscription)
  current : Option SlotId
  deriving DecidableEq, Repr

/-- A channel descriptor (R22): no definition means UNUSED; the sequence counter and the frozen flag belong to the number. -/
structure Channel where
  defn : Option ChannelDef
  seq : Word
  frozen : Bool
  deriving DecidableEq, Repr

/-! ### Publish queue and delivery engine (Chapter 3) -/

/-- A publish request (R50). -/
structure Request where
  slot : SlotId
  publisher : Port
  orphaned : Bool
  deriving DecidableEq, Repr

/-- The four counts of a fan-out (R51). -/
structure Counts where
  placed : Nat
  filtered : Nat
  offline : Nat
  dropped : Nat
  deriving DecidableEq, Repr

/-- The next placement event, or END (R51). -/
inductive Cursor where
  | visit (p : Port)
  | finish
  deriving DecidableEq, Repr

/-- What the engine holds while SPREADING (R51). -/
structure FanOut where
  request : Request
  cursor : Cursor
  counts : Counts
  expired : Bool
  deriving DecidableEq, Repr

/-- The outcome of a completion record (R59). -/
inductive PublishOutcome where
  | delivered | noneDelivered | channelClosed | expired
  deriving DecidableEq, Repr

/-- A completion record (R59). -/
structure Completion where
  channel : ChannelId
  seq : Word
  outcome : PublishOutcome
  counts : Counts
  deriving DecidableEq, Repr

/-! ### Delivery queues and read holds (Chapter 4) -/

/-- A delivery entry (R69). -/
structure Entry where
  slot : SlotId
  channel : ChannelId
  seq : Word
  tag : Word
  length : Nat
  publisher : Port
  deriving DecidableEq, Repr

/-- Where the message of a read hold came from (R70). -/
inductive Source where
  | stream | state
  deriving DecidableEq, Repr

/-- An occupied read hold (R70). -/
structure Hold where
  entry : Entry
  source : Source
  pointer : Nat
  deriving DecidableEq, Repr

/-! ### The lock table (Chapter 6) -/

/-- What a lock has while it is HELD (R96). -/
structure Grant where
  holder : Port
  number : BitVec 32
  lease : Option Nat
  deriving DecidableEq, Repr

/-- A grant that the expiry of its lease ended (R96). -/
structure Revoked where
  number : BitVec 32
  port : Port
  deriving DecidableEq, Repr

/-- A lock record (R96): no grant means FREE. -/
structure Lock where
  grant : Option Grant
  lastIssued : BitVec 32
  leaseSetting : Nat
  waiters : List Port
  revoked : Option Revoked
  frozen : Bool
  deriving DecidableEq, Repr

/-! ### Time base (Chapter 7) -/

/-- The prescaler and the tick counter (R115, R117). -/
structure TimeBase where
  prescale : Nat
  count : Nat
  ticks : BitVec 32
  deriving DecidableEq, Repr

/-- What the last base tick brings to its end and its block has not taken yet (R118, R119, R103, R126, R157; DEDUCED, log 7): the
slots whose expiry is due; the locks whose lease it ends, while the lock table has not taken the tick; the ports whose cool-down it
ends, while the port context unit has not; the flag of device control. -/
structure Due where
  slots : List SlotId
  locks : List LockId
  ports : List Port
  authorization : Bool
  deriving DecidableEq, Repr

/-! ### Port contexts (Chapter 8) -/

/-- Port states (R124). -/
inductive PortState where
  | offline | attached | isolated
  deriving DecidableEq, Repr

/-- Confinement levels (R129). -/
inductive Level where
  | normal | warned | restricted
  deriving DecidableEq, Repr

/-- Last-reset causes (R135). -/
inductive ResetCause where
  | none | powerOn | deviceReset | portReset | isolated
  deriving DecidableEq, Repr

/-- A port record (R124). The confinement level follows from the score (R129). -/
structure PortRecord where
  state : PortState
  identity : Word
  quota : Nat
  account : Nat
  score : Nat
  coolDown : Nat
  vote : Bool
  credits : Nat
  deriving DecidableEq, Repr

/-- A report on its way to the port context unit (R128; DEDUCED, log 4). -/
structure Report where
  port : Port
  kind : ReportKind
  deriving DecidableEq, Repr

/-! ### Event units (Chapter 9) -/

/-- One port's flags, enables, priorities (event n at positions 2n and 2n+1) and threshold (R138, 10.1). -/
structure EventUnit where
  pending : BitVec 12
  enable : BitVec 12
  priority : BitVec 24
  threshold : BitVec 2
  deriving DecidableEq, Repr

/-! ### Port windows (Chapter 10) -/

/-- A command latched by the window, with its arguments (R146). -/
structure Issued where
  command : Command
  args : Words6
  deriving DecidableEq, Repr

/-- One port's window (R145 to R150), with the last-reset cause (R135), the TICK_COUNT capture (R117), the fill pointer (R11)
and the word the last read with an effect drove onto PxD (10.7; DESIGN CHOICE, log 12). An issued command means ISSUED. -/
structure Window where
  issued : Option Issued
  args : Words6
  command : Byte
  response : Byte
  results : Words6
  counter : BitVec 4
  lastFault : Word
  cause : ResetCause
  capture : Word
  fillPointer : Nat
  readData : Word
  deriving DecidableEq, Repr

/-! ### Device control (Chapter 11) -/

/-- The two device states (R152). -/
inductive DeviceState where
  | config | run
  deriving DecidableEq, Repr

/-- What device control holds (R152, R154, R157). -/
structure Device where
  state : DeviceState
  quorum : Nat
  authorization : Nat
  deriving DecidableEq, Repr

/-! ### The whole part -/

/-- The FX416, and the queue of commands and events waiting to be taken. -/
structure State where
  /-- Commands and events waiting, first in, first out (log 10). -/
  pending : List Instr
  /-- PORn is asserted (R152). -/
  porAsserted : Bool
  geometry : Geometry
  /-- Slot records 0 to 255, those below N in force (R3; log 16). -/
  slots : Table Slot 256
  payload : Memory
  freeList : List SlotId
  reservations : PerPort (Option SlotId)
  watermark : Nat
  channels : Table Channel 32
  publishQueue : List Request
  /-- None while the engine is IDLE (R51). -/
  engine : Option FanOut
  completions : PerPort (List Completion)
  queues : PerPort (List Entry)
  holds : PerPort (Option Hold)
  locks : Table Lock 16
  waits : PerPort (Option LockId)
  time : TimeBase
  due : Due
  ports : PerPort PortRecord
  /-- Reports not yet taken, oldest first (R128; log 4). -/
  reports : List Report
  events : PerPort EventUnit
  windows : PerPort Window
  device : Device
  deriving DecidableEq, Repr

/-- Why the model stops with a fault. -/
inductive Fault where
  /-- Raised by FILL_DATA and READ_DATA where the slot's payload would stand outside the 8192-byte payload store, an address
  that R1 gives no slot (log 17). Safe: the part has no such slot, and no state reached from reset meets it. -/
  | payloadStoreBounds
  deriving DecidableEq, Repr

/-- Why the model gives no meaning. -/
inductive Refusal where
  /-- Raised by `exec` for a command that has no meaning yet. Safe: the model stops. No arm raises it. -/
  | notModelled (mnemonic : String)
  deriving DecidableEq, Repr

/-! ### Power-on values -/

/-- A FREE slot record: its optional fields absent, count 0 (R19). -/
def Slot.free : Slot := { use := .free, refs := 0 }

/-- A channel descriptor after power-on (R42). -/
def Channel.powerOn : Channel := { defn := none, seq := 0, frozen := false }

/-- A lock record after power-on (R113). -/
def Lock.powerOn : Lock :=
  { grant := none, lastIssued := 0, leaseSetting := 0, waiters := [], revoked := none, frozen := false }

/-- A port record after power-on and after device reset (R137, R19, R20, R66, R67). -/
def PortRecord.initial : PortRecord :=
  { state := .offline, identity := 0, quota := 0, account := 0, score := 0, coolDown := 0, vote := false,
    credits := Config.credits }

/-- An event unit after power-on, device reset or port reset (R144). -/
def EventUnit.initial : EventUnit := { pending := 0, enable := 0, priority := 0, threshold := 0 }

/-- A window after power-on (R145, R135, R117, R19); `readData` by DESIGN CHOICE (log 12). -/
def Window.powerOn : Window :=
  { issued := none, args := {}, command := 0, response := 0, results := {}, counter := 0, lastFault := 0,
    cause := .powerOn, capture := 0, fillPointer := 0, readData := 0 }

/-- No share of a tick outstanding. -/
def Due.none : Due := { slots := [], locks := [], ports := [], authorization := false }

/-- Slot indices 0 to n−1 in ascending order: the free list that the resets and SET_GEOMETRY build (R7). -/
def slotsBelow (n : Nat) : List SlotId := (indices 256).filter fun i => decide (i.val < n)

/-- The part right after power-on reset, PORn released, every block at its power-on values (R19, R42, R67, R83, R95, R113, R123,
R137, R144, R145, R152); nothing waits in the queue. -/
def State.reset : State :=
  { pending := []
    porAsserted := false
    geometry := .g64
    slots := Table.replicate 256 Slot.free
    payload := []
    freeList := slotsBelow 128
    reservations := PerPort.all none
    watermark := Config.powerOnWatermark
    channels := Table.replicate 32 Channel.powerOn
    publishQueue := []
    engine := none
    completions := PerPort.all []
    queues := PerPort.all []
    holds := PerPort.all none
    locks := Table.replicate 16 Lock.powerOn
    waits := PerPort.all none
    time := { prescale := Config.powerOnPrescale, count := 0, ticks := 0 }
    due := Due.none
    ports := PerPort.all PortRecord.initial
    reports := []
    events := PerPort.all EventUnit.initial
    windows := PerPort.all Window.powerOn
    device := { state := .config, quorum := Config.powerOnQuorum, authorization := 0 } }

end Sys2Proof.Machine
end

