-- ==== Sys2Proof/Machine/Operands.lean ====
section
/-! DEFINITION. Reading arguments out of words, packing results into words, and the response codes with their classes. -/

namespace Sys2Proof.Machine

/-! ### Words -/

/-- The low byte of a word, as a number. -/
def lowByte (w : Word) : Nat := w.toNat % 256

/-- The high byte of a word, as a number. -/
def highByte (w : Word) : Nat := w.toNat / 256

/-- The word of a number (results are 16-bit words, 00_scope.md). -/
def toWord (n : Nat) : Word := BitVec.ofNat 16 n

/-- The word with `lo` in its low byte and `hi` in its high byte. -/
def bytesWord (lo hi : Nat) : Word := toWord (lo % 256 + 256 * (hi % 256))

/-- A 32-bit quantity occupies two words, low word first (00_scope.md, "Words and bytes"). -/
def longOf (lo hi : Word) : BitVec 32 := hi ++ lo

/-- The low word of a 32-bit quantity. -/
def lowWord (n : BitVec 32) : Word := n.extractLsb' 0 16

/-- The high word of a 32-bit quantity. -/
def highWord (n : BitVec 32) : Word := n.extractLsb' 16 16

/-- A set of ports as a number, port A in the lowest position (R29, R40). -/
def portBits (f : Port → Bool) : Nat := (f .A).toNat + 2 * (f .B).toNat + 4 * (f .C).toNat + 8 * (f .D).toNat

/-! ### Arguments -/

/-- FFFFh: ANY, the next channel with news, or the issuing port (4.3, 5.3, R136). -/
def anyWord : Word := 0xFFFF

/-- A channel number of 0 to 31. -/
def channel? (n : Nat) : Option ChannelId := if h : n < 32 then some ⟨n, h⟩ else none

/-- A lock number of 0 to 15. -/
def lock? (n : Nat) : Option LockId := if h : n < 16 then some ⟨n, h⟩ else none

/-- A publisher set: nothing set above the fourth position (R29). -/
def publishers? (w : Word) : Option (BitVec 4) := if w.toNat < 16 then some (w.extractLsb' 0 4) else none

/-- A channel kind: 0 for STREAM, 1 for STATE (R29). -/
def kind? (w : Word) : Option ChannelKind := if w = 0 then some .stream else if w = 1 then some .state else none

/-- A slot size: 32, 64 or 128 (R2). -/
def geometry? (w : Word) : Option Geometry :=
  if w = 32 then some .g32 else if w = 64 then some .g64 else if w = 128 then some .g128 else none

/-- A subscription depth: 0 selects 4, 1 to 16 as given (R31). -/
def depth? (n : Nat) : Option Nat := if n = 0 then some Config.defaultDepth else if n ≤ Config.depthMax then some n else none

/-- An overflow policy: 0 KEEP_OLDEST, 1 KEEP_NEWEST (R31). -/
def policy? (n : Nat) : Option Policy := if n = 0 then some .keepOldest else if n = 1 then some .keepNewest else none

/-- What TAKE, DISCARD, READ_STATE and QUERY_QUEUE name in ARG0: a channel, or ANY. -/
inductive Selector where
  | any
  | channel (ch : ChannelId)
  deriving DecidableEq, Repr

/-- ARG0 as a channel number from 0 to 31 or FFFFh (4.3). -/
def selector? (w : Word) : Option Selector := if w = anyWord then some .any else (channel? w.toNat).map .channel

/-- Whether a selector matches an entry (R72). -/
def Selector.matches (x : Selector) (e : Entry) : Bool :=
  match x with
  | .any => true
  | .channel ch => decide (e.channel = ch)

/-! ### Geometry -/

/-- Slot size S (R1). -/
def Geometry.slotSize : Geometry → Nat
  | .g32 => 32
  | .g64 => 64
  | .g128 => 128

/-- Slot count N (R1). -/
def Geometry.slotCount : Geometry → Nat
  | .g32 => 256
  | .g64 => 128
  | .g128 => 64

/-! ### Codes reported in results -/

/-- R136, STATUS positions 1–2. -/
def PortState.code : PortState → Nat
  | .offline => 0
  | .attached => 1
  | .isolated => 2

/-- R136, STATUS positions 3–4. -/
def Level.code : Level → Nat
  | .normal => 0
  | .warned => 1
  | .restricted => 2

/-- R135. -/
def ResetCause.code : ResetCause → Nat
  | .none => 0
  | .powerOn => 1
  | .deviceReset => 2
  | .portReset => 3
  | .isolated => 4

/-- R60. -/
def PublishOutcome.code : PublishOutcome → Nat
  | .delivered => 0
  | .noneDelivered => 1
  | .channelClosed => 2
  | .expired => 3

/-- R75: 0 for STREAM and 1 for STATE. -/
def Source.code : Source → Nat
  | .stream => 0
  | .state => 1

/-- R40: 0 STREAM, 1 STATE. -/
def ChannelKind.code : ChannelKind → Nat
  | .stream => 0
  | .state => 1

/-- R40: 1 ACTIVE, 2 SUSPENDED, 3 CLOSING (0 is UNUSED). -/
def ChannelPhase.code : ChannelPhase → Nat
  | .active => 1
  | .suspended => 2
  | .closing => 3

/-! ### Response codes (10.6) -/

/-- The code a response is shown as (10.6). -/
def Response.code : Response → Byte
  | .ok => 0x00
  | .queued => 0x01
  | .closePending => 0x02
  | .busy => 0x10
  | .poolEmpty => 0x11
  | .quota => 0x12
  | .denied => 0x13
  | .empty => 0x14
  | .suspended => 0x15
  | .closed => 0x16
  | .restricted => 0x17
  | .notRunning => 0x18
  | .offline => 0x19
  | .isolated => 0x1A
  | .cooling => 0x1B
  | .leaseExpired => 0x1C
  | .notWaiting => 0x1D
  | .reset => 0x1E
  | .unknownCommand => 0x20
  | .badArgument => 0x21
  | .wrongState => 0x22
  | .noChannel => 0x23
  | .notPublisher => 0x24
  | .noReservation => 0x25
  | .reservationHeld => 0x26
  | .length => 0x27
  | .holdEmpty => 0x28
  | .holdFull => 0x29
  | .notHolder => 0x2A
  | .alreadyHolder => 0x2B
  | .alreadyWaiting => 0x2C
  | .staleGrant => 0x2D
  | .frozen => 0x2E
  | .needConfigLock => 0x2F
  | .notSubscriber => 0x30
  | .collision => 0x31
  | .fillOverrun => 0x32

/-- The class of a response, as it is reported to the port context unit (10.6, R128). -/
def Response.kind : Response → ReportKind
  | .ok | .queued | .closePending => .success
  | .busy | .poolEmpty | .quota | .denied | .empty | .suspended | .closed | .restricted | .notRunning | .offline => .refusal
  | .isolated | .cooling | .leaseExpired | .notWaiting | .reset => .refusal
  | .unknownCommand | .badArgument | .wrongState | .noChannel | .notPublisher | .noReservation | .reservationHeld => .fault
  | .length | .holdEmpty | .holdFull | .notHolder | .alreadyHolder | .alreadyWaiting | .staleGrant | .frozen => .fault
  | .needConfigLock | .notSubscriber | .collision | .fillOverrun => .fault

end Sys2Proof.Machine
end

