-- ==== Sys2Proof/Machine/Flags.lean ====
section
/-! DEFINITION. The event units (Chapter 9): pending flags, the qualifying condition, TOP_CAUSE; and the confinement level that
follows from a fault score (R129). -/

namespace Sys2Proof.Machine

/-- The number of an event: its position in EVENT_PENDING and EVENT_ENABLE, and the tie order of TOP_CAUSE (9.1). -/
def Event.number : Event → Nat
  | .fault => 0
  | .score => 1
  | .leaseLost => 2
  | .grant => 3
  | .completion => 4
  | .queue => 5
  | .stateNew => 6
  | .lost => 7
  | .expired => 8
  | .channel => 9
  | .poolLow => 10
  | .vote => 11

/-- The twelve events in the order of 9.1. -/
def Event.all : List Event :=
  [.fault, .score, .leaseLost, .grant, .completion, .queue, .stateNew, .lost, .expired, .channel, .poolLow, .vote]

/-- A block raises an event: its pending flag is set, whatever it was (R138). -/
def EventUnit.raise (u : EventUnit) (e : Event) : EventUnit :=
  { u with pending := u.pending ||| BitVec.twoPow 12 e.number }

/-- The priority of an event: two bits, event n at positions 2n and 2n+1 (10.1). -/
def EventUnit.priorityOf (u : EventUnit) (e : Event) : Nat := (u.priority.extractLsb' (2 * e.number) 2).toNat

/-- An event qualifies while it is pending, enabled and its priority is at least the threshold (R141). -/
def EventUnit.qualifies (u : EventUnit) (e : Event) : Bool :=
  u.pending.getLsbD e.number && u.enable.getLsbD e.number && decide (u.threshold.toNat ≤ u.priorityOf e)

/-- The first qualifying event of priority `n` in the tie order (R142). -/
def EventUnit.firstAt (u : EventUnit) (n : Nat) : Option Event :=
  Event.all.find? fun e => u.qualifies e && decide (u.priorityOf e = n)

/-- The qualifying event of highest priority, the earliest in 9.1 among equals (R142). -/
def EventUnit.top (u : EventUnit) : Option Event :=
  (u.firstAt 3).orElse fun _ => (u.firstAt 2).orElse fun _ => (u.firstAt 1).orElse fun _ => u.firstAt 0

/-- TOP_CAUSE: event number in the low byte, priority in the high byte; FFFFh when none qualifies (R142). -/
def EventUnit.topCause (u : EventUnit) : Word :=
  match u.top with
  | some e => bytesWord e.number (u.priorityOf e)
  | none => 0xFFFF

/-- A write to EVENT_PENDING clears the flags at the positions written as 1; positions 12 to 15 are ignored (R139). -/
def EventUnit.clear (u : EventUnit) (w : Word) : EventUnit :=
  { u with pending := u.pending &&& ~~~(w.extractLsb' 0 12) }

/-- The level of a fault score: 0 to 95 NORMAL, 96 to 127 WARNED, 128 on RESTRICTED (R129). -/
def levelOf (score : Nat) : Level :=
  if score < Config.warnedScore then .normal else if score < Config.restrictedScore then .warned else .restricted

/-- The confinement level: derived from the score while the port is ATTACHED, absent in the other states (R124, R129). -/
def PortRecord.level? (r : PortRecord) : Option Level :=
  if r.state = .attached then some (levelOf r.score) else none

/-- A +8 raises SCORE when it crosses 96 or 128 upwards (R129). -/
def crossesLevel (old new : Nat) : Bool :=
  (decide (old < Config.warnedScore) && decide (Config.warnedScore ≤ new)) ||
    (decide (old < Config.restrictedScore) && decide (Config.restrictedScore ≤ new))

end Sys2Proof.Machine
end

