-- ==== Sys2Proof/Machine/Ops.lean ====
section
/-! DEFINITION. The named operations that the meanings share: reading and updating records, raising events, reporting to the port
context unit, references to slots, completion records, queue removals, grants and handoffs, the purge, the resets, and how a
command is taken from a window and answered. -/

namespace Sys2Proof.Machine

/-! ### Reading the state -/

/-- The port is ATTACHED (R124). -/
def State.attached (s : State) (p : Port) : Bool := decide ((s.ports.get p).state = .attached)

/-- The attached ports, in port order. -/
def State.attachedPorts (s : State) : List Port := Port.all.filter s.attached

/-- The refusal a port that is OFFLINE or ISOLATED meets (R125). -/
def State.absence (s : State) (p : Port) : Option Response :=
  match (s.ports.get p).state with
  | .offline => some .offline
  | .attached => none
  | .isolated => some .isolated

/-- The port's confinement level is RESTRICTED (R129). -/
def State.restricted (s : State) (p : Port) : Bool := decide ((s.ports.get p).level? = some .restricted)

/-- The definition of a channel, none while it is UNUSED (R22). -/
def State.defn? (s : State) (ch : ChannelId) : Option ChannelDef := (s.channels.get ch).defn

/-- A port's subscription record on a channel (R24). -/
def State.sub? (s : State) (ch : ChannelId) (p : Port) : Option Subscription := (s.defn? ch).bind fun d => d.subs.get p

/-- The message fields of a slot, none in FREE and FILLING (R3). -/
def State.message? (s : State) (i : SlotId) : Option Message :=
  match (s.slots.get i).use with
  | .message m => some m
  | .free => none
  | .filling _ _ => none

/-- The account port of a slot, present in every state but FREE (R3). -/
def SlotUse.account? : SlotUse → Option Port
  | .free => none
  | .filling _ q => some q
  | .message m => some m.account

/-- The vote count: ATTACHED ports whose vote is set (R156). -/
def State.voteCount (s : State) : Nat := (Port.all.filter fun p => s.attached p && (s.ports.get p).vote).length

/-- Entries of a channel in a port's delivery queue: n of R54. -/
def State.entriesOf (s : State) (p : Port) (ch : ChannelId) : Nat :=
  (s.queues.get p).countP fun e => decide (e.channel = ch)

/-- The first store byte of a slot (R1). -/
def State.slotBase (s : State) (i : SlotId) : Nat := i.val * s.geometry.slotSize

/-! ### Updating records -/

/-- Change a port's window. -/
def State.updWindow (s : State) (p : Port) (f : Window → Window) : State := { s with windows := s.windows.modify p f }

/-- Change a port's record. -/
def State.updPort (s : State) (p : Port) (f : PortRecord → PortRecord) : State := { s with ports := s.ports.modify p f }

/-- Change a port's event unit. -/
def State.updEvents (s : State) (p : Port) (f : EventUnit → EventUnit) : State := { s with events := s.events.modify p f }

/-- Change a slot record. -/
def State.updSlot (s : State) (i : SlotId) (f : Slot → Slot) : State := { s with slots := s.slots.modify i f }

/-- Change a channel descriptor. -/
def State.updChannel (s : State) (ch : ChannelId) (f : Channel → Channel) : State :=
  { s with channels := s.channels.modify ch f }

/-- Change the definition of a channel, if it has one. -/
def State.updDefn (s : State) (ch : ChannelId) (f : ChannelDef → ChannelDef) : State :=
  s.updChannel ch fun c => { c with defn := c.defn.map f }

/-- Change a port's subscription record on a channel, if it has one. -/
def State.updSub (s : State) (ch : ChannelId) (p : Port) (f : Subscription → Subscription) : State :=
  s.updDefn ch fun d => { d with subs := d.subs.modify p (Option.map f) }

/-- Change a lock record. -/
def State.updLock (s : State) (l : LockId) (f : Lock → Lock) : State := { s with locks := s.locks.modify l f }

/-- Set a port's reservation record. -/
def State.setReservation (s : State) (p : Port) (r : Option SlotId) : State :=
  { s with reservations := s.reservations.set p r }

/-- Set a port's delivery queue. -/
def State.setQueue (s : State) (p : Port) (q : List Entry) : State := { s with queues := s.queues.set p q }

/-- Set a port's read hold. -/
def State.setHold (s : State) (p : Port) (h : Option Hold) : State := { s with holds := s.holds.set p h }

/-- Set a port's wait record. -/
def State.setWait (s : State) (p : Port) (l : Option LockId) : State := { s with waits := s.waits.set p l }

/-! ### Events and reports -/

/-- Raise an event at a port (R138). -/
def State.raise (s : State) (p : Port) (e : Event) : State := s.updEvents p fun u => u.raise e

/-- Raise an event at each port of a list. -/
def State.raiseAll (s : State) (e : Event) (ps : List Port) : State := ps.foldl (fun t p => t.raise p e) s

/-- Report to the port context unit, which takes the report at its FAULT_SCORE_REPORT (R128; log 4). What is answered to a port
that is not ATTACHED leaves the score as it is, whatever the port has become since (R125; log 26): it leaves no report. -/
def State.report (s : State) (p : Port) (k : ReportKind) : State :=
  { s with reports := if s.attached p then s.reports ++ [{ port := p, kind := k }] else s.reports }

/-- A fault at a window location: LAST_FAULT with the location's offset, FAULT, and the report; RESPONSE stays (R11, R12, R77,
R128, R150). -/
def State.locationFault (s : State) (p : Port) (r : Response) (origin : Nat) : State :=
  ((s.updWindow p fun w => { w with lastFault := bytesWord r.code.toNat origin }).raise p .fault).report p .fault

/-! ### References to slots (R4, R5) -/

/-- One more holder of the slot (R4). -/
def State.addRef (s : State) (i : SlotId) : State := s.updSlot i fun r => { r with refs := r.refs + 1 }

/-- The account of a slot's account port falls by one (R5, R15). -/
def PerPort.credit (ports : PerPort PortRecord) : Option Port → PerPort PortRecord
  | none => ports
  | some q => ports.modify q fun r => { r with account := r.account - 1 }

/-- A slot is freed: FREE with its optional fields absent, its account port's account falls, its index goes to the tail of the
free list (R5). A share of the tick still due for its lifetime falls with the lifetime (R122; log 9). -/
def State.freeSlot (s : State) (i : SlotId) : State :=
  { s with
    slots := s.slots.set i Slot.free
    freeList := s.freeList ++ [i]
    ports := PerPort.credit s.ports (s.slots.get i).use.account?
    due := { s.due with slots := s.due.slots.filter fun j => decide (j ≠ i) } }

/-- A release lowers the count by one and frees the slot when the count reaches 0 (R5). -/
def State.release (s : State) (i : SlotId) : State :=
  if (s.slots.get i).refs = 1 then s.freeSlot i else s.updSlot i fun r => { r with refs := r.refs - 1 }

/-- Releases in the order given. -/
def State.releaseAll (s : State) (is : List SlotId) : State := is.foldl State.release s

/-! ### Counts of subscription records (R26) -/

/-- One more, stopping at 65535 (R26). -/
def saturate (n : Nat) : Nat := if n < Config.countMax then n + 1 else Config.countMax

/-- The lost count rises and LOST is raised (R26). -/
def State.countLost (s : State) (p : Port) (ch : ChannelId) : State :=
  (s.updSub ch p fun b => { b with lost := saturate b.lost }).raise p .lost

/-- The expired count rises and EXPIRED is raised (R26). -/
def State.countExpired (s : State) (p : Port) (ch : ChannelId) : State :=
  (s.updSub ch p fun b => { b with expired := saturate b.expired }).raise p .expired

/-! ### Completion records (R59) -/

/-- All four counts 0 (R36, R63). -/
def Counts.zero : Counts := { placed := 0, filtered := 0, offline := 0, dropped := 0 }

/-- A completion record is appended to the port's list and COMPLETION is raised (R59). -/
def State.complete (s : State) (p : Port) (c : Completion) : State :=
  ({ s with completions := s.completions.modify p fun cs => cs ++ [c] }).raise p .completion

/-- What becomes of a request: a completion record for its publisher, or nothing where it is orphaned (R58, R36, R63, R62). -/
def State.retire (s : State) (r : Request) (m : Message) (o : PublishOutcome) (n : Counts) : State :=
  if r.orphaned then s else s.complete r.publisher { channel := m.channel, seq := m.seq, outcome := o, counts := n }

/-- A request is removed from the part: its record with zero counts, then its publish hold is released (R36, R63). -/
def State.withdraw (s : State) (o : PublishOutcome) (r : Request) : State :=
  match s.message? r.slot with
  | some m => (s.retire r m o Counts.zero).release r.slot
  | none => s

/-! ### Delivery queues (R68) -/

/-- Every matching entry leaves the port's queue and its reference is released, oldest first (R34, R36, R80). -/
def State.dropEntries (s : State) (p : Port) (f : Entry → Bool) : State :=
  (s.setQueue p ((s.queues.get p).filter fun e => !f e)).releaseAll (((s.queues.get p).filter f).map (·.slot))

/-- The oldest matching entry leaves the port's queue; its reference stays counted (R72). -/
def State.pullOldest (s : State) (p : Port) (f : Entry → Bool) : State := s.setQueue p ((s.queues.get p).eraseP f)

/-- The oldest entry of a channel is lost: removed, released, counted lost, LOST raised (R55, R32). -/
def State.loseOldest (s : State) (p : Port) (ch : ChannelId) : State :=
  match (s.queues.get p).find? fun e => decide (e.channel = ch) with
  | some e => (((s.pullOldest p fun x => decide (x.channel = ch))).release e.slot).countLost p ch
  | none => s

/-! ### Locks (R98, R102) -/

/-- The countdown a setting starts, absent at setting 0: a lease (R98, R105), a message lifetime (R46). -/
def countdown (setting : Nat) : Option Nat := if setting = 0 then none else some setting

/-- A grant of the lock to a port, under the next number and with a fresh lease (R98). -/
def Lock.grantTo (k : Lock) (p : Port) : Lock :=
  { k with
    lastIssued := k.lastIssued + 1
    grant := some { holder := p, number := k.lastIssued + 1, lease := countdown k.leaseSetting } }

/-- Handoff: the current grant ends; the first waiter is granted the lock and GRANT is raised at it, or the lock becomes FREE
(R102). -/
def State.handoff (s : State) (l : LockId) : State :=
  match (s.locks.get l).waiters with
  | [] => s.updLock l fun k => { k with grant := none }
  | w :: ws => (((s.updLock l fun k => { k with waiters := ws }.grantTo w).setWait w none).raise w .grant)

/-- The port holds the lock (R96). -/
def State.holdsLock (s : State) (p : Port) (l : LockId) : Bool :=
  match (s.locks.get l).grant with
  | some g => decide (g.holder = p)
  | none => false

/-- A handoff of the lock if the port holds it. -/
def State.handoffFrom (s : State) (p : Port) (l : LockId) : State := if s.holdsLock p l then s.handoff l else s

/-- A port leaves a lock's waiter list, the ports behind it move up, and its wait record becomes absent (R107, R112). -/
def State.leaveList (s : State) (p : Port) (l : LockId) : State :=
  (s.updLock l fun k => { k with waiters := k.waiters.filter fun q => decide (q ≠ p) }).setWait p none

/-! ### The reset vote (R156, R157) -/

/-- In RUN, a vote count below the quorum sets the authorization counter to 0 (R157). -/
def State.voteFell (s : State) : State :=
  if s.device.state = .run ∧ s.voteCount < s.device.quorum then { s with device := { s.device with authorization := 0 } } else s

/-- The port's vote is withdrawn (R156, R132 step 7). -/
def State.withdrawVote (s : State) (p : Port) : State := (s.updPort p fun r => { r with vote := false }).voteFell

/-! ### The purge (R132) -/

/-- A command in ISSUED is discarded: RESPONSE shows RESET, results 0, READY (R151). -/
def Window.discard (w : Window) : Window :=
  match w.issued with
  | some _ => { w with issued := none, response := Response.reset.code, results := {} }
  | none => w

/-- The port's reservation record becomes absent and its fill pointer 0 (R10). -/
def State.dropReservation (s : State) (p : Port) : State :=
  (s.setReservation p none).updWindow p fun w => { w with fillPointer := 0 }

/-- Step 2: the reservation is abandoned (R21). -/
def State.purgeReservation (s : State) (p : Port) : State :=
  match s.reservations.get p with
  | some i => (s.release i).dropReservation p
  | none => s.dropReservation p

/-- The read hold's reference is released and the hold becomes empty (R75, R80). -/
def State.emptyHold (s : State) (p : Port) : State :=
  match s.holds.get p with
  | some h => (s.release h.entry.slot).setHold p none
  | none => s

/-- Step 3: every queued entry, oldest first, then the read hold (R80). -/
def State.purgeQueue (s : State) (p : Port) : State := (s.dropEntries p fun _ => true).emptyHold p

/-- A channel with the port's NEW flag cleared. -/
def Channel.clearNew (p : Port) (c : Channel) : Channel :=
  { c with defn := c.defn.map fun d => { d with subs := d.subs.modify p (Option.map fun b => { b with new := false }) } }

/-- Step 4: every NEW flag of the port is cleared, without count (R95). -/
def State.clearNews (s : State) (p : Port) : State := { s with channels := s.channels.map (Channel.clearNew p) }

/-- A request of the port is orphaned (R62). -/
def Request.orphan (p : Port) (r : Request) : Request := if r.publisher = p then { r with orphaned := true } else r

/-- Step 5: every request of the port is orphaned, its completion list emptied, its free credits 4 (R62). -/
def State.orphanPublishes (s : State) (p : Port) : State :=
  { s with
    publishQueue := s.publishQueue.map (Request.orphan p)
    engine := s.engine.map fun f => { f with request := f.request.orphan p }
    completions := s.completions.set p []
    ports := s.ports.modify p fun r => { r with credits := Config.credits } }

/-- Step 6: the port leaves any waiter list, and every lock it holds is handed off in ascending lock number (R112). -/
def State.purgeLocks (s : State) (p : Port) : State :=
  let t := match s.waits.get p with
    | some l => s.leaveList p l
    | none => s
  (indices 16).foldl (fun u l => u.handoffFrom p l) t

/-- Step 8: every pending event flag of the port is cleared. -/
def State.clearPending (s : State) (p : Port) : State := s.updEvents p fun u => { u with pending := 0 }

/-- A report of the port taken after its purge changes nothing (R128, R112; log 26). -/
def State.dropReports (s : State) (p : Port) : State := { s with reports := s.reports.filter fun r => decide (r.port ≠ p) }

/-- The purge of a port, its eight steps in order (R132), and the end of its reports. -/
def State.purge (s : State) (p : Port) : State :=
  let s1 := s.updWindow p Window.discard
  let s2 := s1.purgeReservation p
  let s3 := s2.purgeQueue p
  let s4 := s3.clearNews p
  let s5 := s4.orphanPublishes p
  let s6 := s5.purgeLocks p
  let s7 := s6.withdrawVote p
  (s7.clearPending p).dropReports p

/-! ### The fault score (R128 to R131) -/

/-- A success lowers the score of an attached port by one, not below 0 (R128). -/
def State.lowerScore (s : State) (p : Port) : State := s.updPort p fun r => { r with score := r.score - 1 }

/-- Isolation: score 255, ISOLATED, the cool-down starts, the cause is ISOLATED, and the purge is carried out (R131). -/
def State.isolate (s : State) (p : Port) : State :=
  ((s.updPort p fun r =>
      { r with score := Config.isolatedScore, state := .isolated, coolDown := Config.coolDown }).updWindow p
    fun w => { w with cause := .isolated }).purge p

/-- A +8: the score rises, with SCORE raised on a crossing, or the port is isolated (R128, R129, R131). -/
def State.charge (s : State) (p : Port) : State :=
  let old := (s.ports.get p).score
  let new := old + Config.faultPoints
  if Config.isolationScore ≤ new then s.isolate p
  else
    let t := s.updPort p fun r => { r with score := new }
    if crossesLevel old new then t.raise p .score else t

/-- The port context unit takes a report, against the port's state at that moment (R128). -/
def State.score (s : State) (p : Port) (k : ReportKind) : State :=
  if s.attached p then
    match k with
    | .success => s.lowerScore p
    | .refusal => s
    | .fault => s.charge p
    | .leaseExpiry => s.charge p
  else s

/-! ### Resets (R152, R158) -/

/-- A subscription record at device reset: settings kept, counts 0, NEW clear (R43). -/
def Subscription.deviceReset (b : Subscription) : Subscription :=
  { b with lost := 0, expired := 0, superseded := 0, new := false }

/-- A channel definition at device reset: no current value (R95); a CLOSING channel becomes UNUSED (R43). -/
def ChannelDef.deviceReset (d : ChannelDef) : Option ChannelDef :=
  if d.phase = .closing then none
  else some { d with subs := d.subs.map (Option.map Subscription.deviceReset), current := none }

/-- A channel at device reset (R43). -/
def Channel.deviceReset (c : Channel) : Channel := { c with defn := c.defn.bind ChannelDef.deviceReset }

/-- A lock at device reset: FREE, no waiters, no revoked grant; the rest is kept (R114). -/
def Lock.deviceReset (k : Lock) : Lock := { k with grant := none, waiters := [], revoked := none }

/-- A window at device reset (R151, R150, R135, R123, R20). -/
def Window.deviceReset (w : Window) : Window :=
  { w.discard with counter := 0, lastFault := 0, cause := .deviceReset, capture := 0, fillPointer := 0 }

/-- Device reset: every block takes its device-reset values in one event (R158). -/
def State.deviceReset (s : State) : State :=
  { s with
    slots := Table.replicate 256 Slot.free
    freeList := slotsBelow s.geometry.slotCount
    reservations := PerPort.all none
    channels := s.channels.map Channel.deviceReset
    publishQueue := []
    engine := none
    completions := PerPort.all []
    queues := PerPort.all []
    holds := PerPort.all none
    locks := s.locks.map Lock.deviceReset
    waits := PerPort.all none
    time := { s.time with count := 0, ticks := 0 }
    due := Due.none
    ports := PerPort.all PortRecord.initial
    reports := []
    events := PerPort.all EventUnit.initial
    windows := s.windows.map Window.deviceReset
    device := { s.device with authorization := 0 } }

/-- PORn becomes asserted: every block at its power-on values (R152). What waits in the queue is outside the part (log 10). -/
def State.powerOn (s : State) : State := { State.reset with pending := s.pending, porAsserted := true }

/-! ### Taking a command and answering it (R147) -/

/-- What an owning block makes of a command: the state it leaves, the response and results, whether the port context unit has
already taken the report (R126, R127), and whether a device reset follows in the same event (R154, R157). -/
structure Answer where
  state : State
  response : Response
  results : Words6 := {}
  scored : Bool := false
  resets : Bool := false

/-- The answer that changes nothing but the window. -/
def State.answer (s : State) (r : Response) (w : Words6 := {}) : Answer := { state := s, response := r, results := w }

/-- A window with an answer posted: RESPONSE, RESULT0 to RESULT5, READY, and LAST_FAULT on a fault (R147, R150). -/
def Window.post (w : Window) (c : Command) (r : Response) (results : Words6) : Window :=
  { w with
    issued := none
    response := r.code
    results := results
    lastFault := if r.kind = .fault then bytesWord r.code.toNat c.code.toNat else w.lastFault }

/-- The answer is posted, FAULT raised on a fault, and the class reported; then the device reset, if one follows (R147, R157). -/
def Answer.post (x : Answer) (p : Port) (c : Command) : State :=
  let s1 := x.state.updWindow p fun w => w.post c x.response x.results
  let s2 := if x.response.kind = .fault then s1.raise p .fault else s1
  let s3 := if x.scored then s2 else s2.report p x.response.kind
  if x.resets then s3.deviceReset else s3

/-- The arguments of command `c`, if it is the one ISSUED in the port's window (R146) and PORn is not asserted (R152). -/
def State.issuedArgs (s : State) (p : Port) (c : Command) : Option Words6 :=
  if s.porAsserted then none
  else
    match (s.windows.get p).issued with
    | some i => if i.command = c then some i.args else none
    | none => none

/-- The owning block takes the issued command `c` of port `p`; where none is issued the event does not occur (R147; log 1). -/
def State.takeCommand (s : State) (p : Port) (c : Command) (body : Words6 → Answer) : Host.Outcome State Fault Refusal :=
  .next (match s.issuedArgs p c with
    | some a => (body a).post p c
    | none => s)

/-- An access or event that PORn suspends while it is asserted (R152; log 14). -/
def State.unlessPowerOn (s : State) (t : State) : Host.Outcome State Fault Refusal := .next (if s.porAsserted then s else t)

/-! ### Checks that commands share -/

/-- RESERVE, PUBLISH, TAKE, DISCARD, DONE, READ_STATE, COLLECT: RUN only, then the port state (R152, R125). -/
def State.trafficCheck (s : State) (p : Port) : Option Response :=
  if s.device.state = .run then s.absence p else some .notRunning

/-- SET_GEOMETRY, SET_TIMEBASE, SET_QUORUM, SET_WATERMARK, START: CONFIG only, then the port state (R2, R18, R116, R153,
R154). -/
def State.settingCheck (s : State) (p : Port) : Option Response :=
  if s.device.state = .run then some .wrongState else s.absence p

/-- Checks 1 to 3 of the ten configuration commands (R27, R28). -/
def State.configCheck (s : State) (p : Port) (a : Words6) : Option Response :=
  match s.absence p with
  | some r => some r
  | none =>
    if s.device.state = .run then
      match (s.locks.get 0).grant with
      | some g =>
        if g.holder = p then (if g.number = longOf a.w4 a.w5 then none else some .staleGrant) else some .needConfigLock
      | none => some .needConfigLock
    else none

end Sys2Proof.Machine
end

