-- ==== Sys2Proof/Machine/SlotPool.lean ====
section
/-! DEFINITION. The slot pool (Chapter 1): geometry, watermark, RESERVE, ABANDON and the fill locations. -/

namespace Sys2Proof.Machine

/-! ### SET_GEOMETRY and SET_WATERMARK (R2, R18) -/

/-- The pool rebuilt under a geometry: every record FREE, the free list ascending, the payload store zero, the watermark no
greater than N (R2). -/
def State.withGeometry (s : State) (g : Geometry) : State :=
  { s with
    geometry := g
    slots := Table.replicate 256 Slot.free
    freeList := slotsBelow g.slotCount
    payload := []
    watermark := min s.watermark g.slotCount
    due := { s.due with slots := [] } }

/-- SET_GEOMETRY (R2). -/
def State.setGeometryAnswer (s : State) (p : Port) (a : Words6) : Answer :=
  match s.settingCheck p with
  | some r => s.answer r
  | none =>
    match geometry? a.w0 with
    | none => s.answer .badArgument
    | some g =>
      let t := s.withGeometry g
      t.answer .ok { w0 := toWord g.slotCount, w1 := toWord g.slotSize, w2 := toWord t.watermark }

/-- SET_GEOMETRY is taken (R2). -/
def execSetGeometry (p : Port) (s : State) : Host.Outcome State Fault Refusal :=
  s.takeCommand p .setGeometry (s.setGeometryAnswer p)

/-- SET_WATERMARK (R18). -/
def State.setWatermarkAnswer (s : State) (p : Port) (a : Words6) : Answer :=
  match s.settingCheck p with
  | some r => s.answer r
  | none =>
    if s.geometry.slotCount < a.w0.toNat then s.answer .badArgument
    else ({ s with watermark := a.w0.toNat } : State).answer .ok { w0 := a.w0 }

/-- SET_WATERMARK is taken (R18). -/
def execSetWatermark (p : Port) (s : State) : Host.Outcome State Fault Refusal :=
  s.takeCommand p .setWatermark (s.setWatermarkAnswer p)

/-! ### RESERVE (R8, R9) -/

/-- The head `i` of the free list becomes the port's FILLING reservation on the channel, its payload zero (R9). -/
def State.reserveSlot (s : State) (p : Port) (ch : ChannelId) (i : SlotId) (rest : List SlotId) : State :=
  let t : State :=
    { s with
      freeList := rest
      slots := s.slots.set i { use := .filling ch p, refs := 1 }
      payload := Memory.clear s.payload (s.slotBase i) s.geometry.slotSize }
  ((t.updPort p fun r => { r with account := r.account + 1 }).setReservation p (some i)).updWindow p
    fun w => { w with fillPointer := 0 }

/-- POOL_LOW at every attached port when the free count fell from W or more to below W (R17). -/
def State.warnPool (s : State) (before after : Nat) : State :=
  if s.watermark ≤ before ∧ after < s.watermark then s.raiseAll .poolLow s.attachedPorts else s

/-- RESERVE: the checks of R8 in their order, then the reservation of R9. -/
def State.reserveAnswer (s : State) (p : Port) (a : Words6) : Answer :=
  match s.trafficCheck p with
  | some r => s.answer r
  | none =>
    if s.restricted p then s.answer .restricted
    else if (s.reservations.get p).isSome then s.answer .reservationHeld
    else
      match channel? a.w0.toNat with
      | none => s.answer .badArgument
      | some ch =>
        match s.defn? ch with
        | none => s.answer .noChannel
        | some d =>
          if !d.publishers.getLsbD p.index then s.answer .notPublisher
          else if (s.ports.get p).quota ≤ (s.ports.get p).account then s.answer .quota
          else
            match s.freeList with
            | [] => s.answer .poolEmpty
            | i :: rest =>
              ((s.reserveSlot p ch i rest).warnPool (rest.length + 1) rest.length).answer .ok
                { w0 := toWord i.val, w1 := toWord s.geometry.slotSize, w2 := toWord rest.length }

/-- RESERVE is taken (R8, R9). -/
def execReserve (p : Port) (s : State) : Host.Outcome State Fault Refusal := s.takeCommand p .reserve (s.reserveAnswer p)

/-! ### ABANDON (R14) -/

/-- ABANDON (R14). -/
def State.abandonAnswer (s : State) (p : Port) (_a : Words6) : Answer :=
  match s.absence p with
  | some r => s.answer r
  | none =>
    match s.reservations.get p with
    | none => s.answer .noReservation
    | some i => ((s.release i).dropReservation p).answer .ok { w0 := toWord i.val }

/-- ABANDON is taken (R14). -/
def execAbandon (p : Port) (s : State) : Host.Outcome State Fault Refusal := s.takeCommand p .abandon (s.abandonAnswer p)

/-! ### The fill locations (R11, R12) -/

/-- Two payload bytes at slot offset `k`: the low half of the word at `k`, the high half at `k`+1 (R11). -/
def State.storeWord (s : State) (i : SlotId) (k : Nat) (w : Word) : State :=
  { s with
    payload := Memory.write (Memory.write s.payload (s.slotBase i + k) (w.extractLsb' 0 8)) (s.slotBase i + k + 1)
      (w.extractLsb' 8 8) }

/-- A write to FILL_DATA (R11). -/
def State.fillData (s : State) (p : Port) (w : Word) : Host.Outcome State Fault Refusal :=
  if s.porAsserted || !s.attached p then .next s
  else
    match s.reservations.get p with
    | none => .next (s.locationFault p .noReservation 0x20)
    | some i =>
      let k := (s.windows.get p).fillPointer
      if k < s.geometry.slotSize then
        if s.slotBase i + k + 1 < Config.storeSize then
          .next ((s.storeWord i k w).updWindow p fun x => { x with fillPointer := k + 2 })
        else .fault .payloadStoreBounds
      else .next (s.locationFault p .fillOverrun 0x20)

/-- FILL_DATA is written (R11). -/
def execFillData (p : Port) (w : Word) (s : State) : Host.Outcome State Fault Refusal := s.fillData p w

/-- A pointer a write may set: even, no greater than S − 2 (R12, R77). -/
def State.pointerInRange (s : State) (w : Word) : Bool := decide (w.toNat % 2 = 0) && decide (w.toNat + 2 ≤ s.geometry.slotSize)

/-- A write to FILL_POINTER (R12). -/
def State.fillPointer (s : State) (p : Port) (w : Word) : State :=
  if !s.attached p then s
  else
    match s.reservations.get p with
    | none => s.locationFault p .noReservation 0x21
    | some _ =>
      if s.pointerInRange w then s.updWindow p fun x => { x with fillPointer := w.toNat }
      else s.locationFault p .badArgument 0x21

/-- FILL_POINTER is written (R12). -/
def execFillPointer (p : Port) (w : Word) (s : State) : Host.Outcome State Fault Refusal := s.unlessPowerOn (s.fillPointer p w)

end Sys2Proof.Machine
end

