-- ==== Sys2Proof/Machine/StateChannel.lean ====
section
/-! DEFINITION. The state-channel store (Chapter 5): installing and withdrawing the current value, notification, READ_STATE. -/

namespace Sys2Proof.Machine

/-! ### The current value (R85, R92) -/

/-- A fan-out start of a STATE publish: the slot becomes the current value with a reference of its own, then the previous one is
released (R85). -/
def State.installCurrent (s : State) (ch : ChannelId) (d : ChannelDef) (i : SlotId) : State :=
  let t := (s.addRef i).updDefn ch fun e => { e with current := some i }
  match d.current with
  | some j => t.release j
  | none => t

/-- The ports whose NEW flag for the channel is set, in port order. -/
def ChannelDef.unread (d : ChannelDef) : List Port := Port.all.filter fun q => (d.subs.get q).any fun b => b.new

/-- The current value is withdrawn by its expiry: each set flag is counted expired, every flag cleared, the reference released
(R92). A slot that is not current withdraws nothing (R91). -/
def State.withdrawCurrent (s : State) (ch : ChannelId) (i : SlotId) : State :=
  match s.defn? ch with
  | none => s
  | some d =>
    if d.current = some i then
      ((d.unread.foldl (fun t q => t.countExpired q ch) s).updDefn ch fun e =>
        { e with subs := e.subs.map (Option.map fun b => { b with new := false }), current := none }).release i
    else s

/-! ### Notification (R87) -/

/-- A subscriber is notified: superseded if its flag was set, the flag set, STATE_NEW raised (R87). -/
def State.notify (s : State) (ch : ChannelId) (p : Port) : State :=
  (s.updSub ch p fun b =>
    { b with superseded := if b.new then saturate b.superseded else b.superseded, new := true }).raise p .stateNew

/-! ### READ_STATE (R88, R89) -/

/-- A STATE channel on which the port's NEW flag is set (5.3). -/
def State.hasNews (s : State) (p : Port) (ch : ChannelId) : Bool :=
  (s.defn? ch).any fun d => decide (d.kind = .state) && (d.subs.get p).any fun b => b.new

/-- The lowest-numbered channel with news for the port (5.3). -/
def State.nextNews (s : State) (p : Port) : Option ChannelId := (indices 32).find? (s.hasNews p)

/-- The port's NEW flag for the channel, as RESULT5 reports it (R89). -/
def State.newFlag (s : State) (p : Port) (ch : ChannelId) : Bool := (s.sub? ch p).any fun b => b.new

/-- The read hold's record of a state current (R89). -/
def Message.entry (m : Message) (i : SlotId) : Entry :=
  { slot := i, channel := m.channel, seq := m.seq, tag := m.tag, length := m.length, publisher := m.account }

/-- The first five results of TAKE, DISCARD and READ_STATE (R72, R89). -/
def Entry.results (e : Entry) (last : Word) : Words6 :=
  { w0 := toWord e.channel.val
    w1 := e.seq
    w2 := e.tag
    w3 := toWord e.length
    w4 := bytesWord e.publisher.index e.slot.val
    w5 := last }

/-- READ_STATE of a channel whose value is `i`: a reference for the hold, the hold filled, the NEW flag cleared (R89). -/
def State.readCurrent (s : State) (p : Port) (ch : ChannelId) (i : SlotId) (m : Message) : State :=
  ((s.addRef i).setHold p (some { entry := m.entry i, source := .state, pointer := 0 })).updSub ch p fun b =>
    { b with new := false }

/-- READ_STATE of a chosen channel with the hold empty: EMPTY without a value, else the value (R88 order 8, R89). -/
def State.readChannel (s : State) (p : Port) (ch : ChannelId) : Answer :=
  match (s.defn? ch).bind fun d => d.current with
  | none => s.answer .empty
  | some i =>
    match s.message? i with
    | none => s.answer .empty
    | some m => (s.readCurrent p ch i m).answer .ok ((m.entry i).results (toWord (s.newFlag p ch).toNat))

/-- Orders 4 to 6 of R88: none when the port may read the named channel. -/
def State.stateChannelCheck (s : State) (p : Port) (ch : ChannelId) : Option Response :=
  match s.defn? ch with
  | none => some .noChannel
  | some d =>
    if (d.subs.get p).isNone then some .notSubscriber else if d.kind = .stream then some .wrongState else none

/-- READ_STATE: the checks of R88 in their order, then the read of R89. -/
def State.readStateAnswer (s : State) (p : Port) (a : Words6) : Answer :=
  match s.trafficCheck p with
  | some r => s.answer r
  | none =>
    match selector? a.w0 with
    | none => s.answer .badArgument
    | some (.channel ch) =>
      match s.stateChannelCheck p ch with
      | some r => s.answer r
      | none => if (s.holds.get p).isSome then s.answer .holdFull else s.readChannel p ch
    | some .any =>
      if (s.holds.get p).isSome then s.answer .holdFull
      else
        match s.nextNews p with
        | none => s.answer .empty
        | some ch => s.readChannel p ch

/-- READ_STATE is taken (R88, R89). -/
def execReadState (p : Port) (s : State) : Host.Outcome State Fault Refusal := s.takeCommand p .readState (s.readStateAnswer p)

end Sys2Proof.Machine
end

