-- ==== Sys2Proof/Machine/Delivery.lean ====
section
/-! DEFINITION. Delivery queues and read holds (Chapter 4): TAKE, DISCARD, DONE, QUERY_QUEUE and the read locations. -/

namespace Sys2Proof.Machine

/-! ### TAKE and DISCARD (R72, R74) -/

/-- Orders 5 and 6 of R72: a named channel is defined and the port subscribes to it; ANY meets neither check. -/
def State.selectorCheck (s : State) (p : Port) (x : Selector) : Option Response :=
  match x with
  | .any => none
  | .channel ch =>
    match s.defn? ch with
    | none => some .noChannel
    | some d => if (d.subs.get p).isNone then some .notSubscriber else none

/-- Orders 4 to 7 of R72: the selector and the oldest matching entry. -/
def State.entryJudge (s : State) (p : Port) (w : Word) : Except Response (Selector × Entry) :=
  match selector? w with
  | none => .error .badArgument
  | some x =>
    match s.selectorCheck p x with
    | some r => .error r
    | none =>
      match (s.queues.get p).find? x.matches with
      | none => .error .empty
      | some e => .ok (x, e)

/-- RESULT5 of TAKE and DISCARD: the entries remaining. -/
def State.remaining (s : State) (p : Port) : Word := toWord (s.queues.get p).length

/-- TAKE: the oldest matching entry moves into the empty read hold, its reference with it (R72). -/
def State.takeAnswer (s : State) (p : Port) (a : Words6) : Answer :=
  match s.trafficCheck p with
  | some r => s.answer r
  | none =>
    if (s.holds.get p).isSome then s.answer .holdFull
    else
      match s.entryJudge p a.w0 with
      | .error r => s.answer r
      | .ok (x, e) =>
        let t := (s.pullOldest p x.matches).setHold p (some { entry := e, source := .stream, pointer := 0 })
        t.answer .ok (e.results (t.remaining p))

/-- TAKE is taken (R72). -/
def execTake (p : Port) (s : State) : Host.Outcome State Fault Refusal := s.takeCommand p .take (s.takeAnswer p)

/-- DISCARD: the oldest matching entry is removed and its reference released; the read hold is not touched (R74). -/
def State.discardAnswer (s : State) (p : Port) (a : Words6) : Answer :=
  match s.trafficCheck p with
  | some r => s.answer r
  | none =>
    match s.entryJudge p a.w0 with
    | .error r => s.answer r
    | .ok (x, e) =>
      let t := (s.pullOldest p x.matches).release e.slot
      t.answer .ok (e.results (t.remaining p))

/-- DISCARD is taken (R74). -/
def execDiscard (p : Port) (s : State) : Host.Outcome State Fault Refusal := s.takeCommand p .discard (s.discardAnswer p)

/-! ### DONE (R75) -/

/-- DONE: the hold's reference is released and the hold becomes empty (R75). -/
def State.doneAnswer (s : State) (p : Port) (_a : Words6) : Answer :=
  match s.trafficCheck p with
  | some r => s.answer r
  | none =>
    match s.holds.get p with
    | none => s.answer .holdEmpty
    | some h =>
      (s.emptyHold p).answer .ok
        { w0 := toWord h.entry.channel.val
          w1 := h.entry.seq
          w2 := toWord h.source.code
          w3 := h.entry.tag
          w4 := toWord h.entry.publisher.index }

/-- DONE is taken (R75). -/
def execDone (p : Port) (s : State) : Host.Outcome State Fault Refusal := s.takeCommand p .done (s.doneAnswer p)

/-! ### QUERY_QUEUE (R79) -/

/-- What QUERY_QUEUE reports for a selector (R79). -/
def State.queueResults (s : State) (p : Port) (x : Selector) : Words6 :=
  let q := s.queues.get p
  let counted : Words6 := { w0 := toWord q.length, w1 := toWord (q.countP x.matches) }
  match s.holds.get p with
  | none => counted
  | some h =>
    { counted with
      w2 := toWord (h.source.code + 1)
      w3 := toWord h.entry.channel.val
      w4 := h.entry.seq
      w5 := toWord h.pointer }

/-- QUERY_QUEUE (R79). -/
def State.queryQueueAnswer (s : State) (p : Port) (a : Words6) : Answer :=
  match s.absence p with
  | some r => s.answer r
  | none =>
    match selector? a.w0 with
    | none => s.answer .badArgument
    | some x => s.answer .ok (s.queueResults p x)

/-- QUERY_QUEUE is taken (R79). -/
def execQueryQueue (p : Port) (s : State) : Host.Outcome State Fault Refusal := s.takeCommand p .queryQueue (s.queryQueueAnswer p)

/-! ### The read locations (R76, R77) -/

/-- A read drives a word onto the port's data pins (10.7; log 12). -/
def State.driveData (s : State) (p : Port) (w : Word) : State := s.updWindow p fun x => { x with readData := w }

/-- The word READ_DATA returns of a held message at read pointer `k` below its length (R76). -/
def State.heldWord (s : State) (h : Hold) : Word :=
  let a := s.slotBase h.entry.slot + h.pointer
  bytesWord (Memory.read s.payload a).toNat
    (if h.pointer + 1 < h.entry.length then (Memory.read s.payload (a + 1)).toNat else 0)

/-- The hold whose message a READ_DATA of the port reaches: the port ATTACHED, the hold occupied, the pointer below the length
(R76). -/
def State.readable (s : State) (p : Port) : Option Hold :=
  if s.attached p then (s.holds.get p).filter fun h => decide (h.pointer < h.entry.length) else none

/-- A read of READ_DATA (R76); reads return 0 while PORn is asserted (R152). -/
def State.readPayload (s : State) (p : Port) : Host.Outcome State Fault Refusal :=
  if s.porAsserted then .next (s.driveData p 0)
  else
    match s.readable p with
    | none => .next (s.driveData p 0)
    | some h =>
      if s.slotBase h.entry.slot + h.pointer + 1 < Config.storeSize then
        .next ((s.driveData p (s.heldWord h)).setHold p (some { h with pointer := h.pointer + 2 }))
      else .fault .payloadStoreBounds

/-- READ_DATA is read (R76). -/
def execReadData (p : Port) (s : State) : Host.Outcome State Fault Refusal := s.readPayload p

/-- A write to READ_POINTER (R77). -/
def State.readPointer (s : State) (p : Port) (w : Word) : State :=
  if !s.attached p then s
  else
    match s.holds.get p with
    | none => s
    | some h =>
      if s.pointerInRange w then s.setHold p (some { h with pointer := w.toNat }) else s.locationFault p .badArgument 0x25

/-- READ_POINTER is written (R77). -/
def execReadPointer (p : Port) (w : Word) (s : State) : Host.Outcome State Fault Refusal := s.unlessPowerOn (s.readPointer p w)

end Sys2Proof.Machine
end

