-- ==== Sys2Proof/Machine/DeviceControl.lean ====
section
/-! DEFINITION. Device control (Chapter 11): START, the quorum, QUERY_DEVICE, the reset vote, the authorization counter and
PORn. -/

namespace Sys2Proof.Machine

/-! ### The reset vote (R156, R157) -/

/-- The port's vote is set, and VOTE raised at every other ATTACHED port; a vote already set changes nothing (R156). -/
def State.castVote (s : State) (p : Port) : State :=
  if (s.ports.get p).vote then s
  else (s.updPort p fun r => { r with vote := true }).raiseAll .vote (s.attachedPorts.filter fun q => decide (q ≠ p))

/-- In CONFIG, a vote count at the quorum resets the device in the event of the command (R157). -/
def State.votedInConfig (s : State) : Bool := decide (s.device.state = .config) && decide (s.device.quorum ≤ s.voteCount)

/-- VOTE_RESET (R156, R157). -/
def State.voteResetAnswer (s : State) (p : Port) (_a : Words6) : Answer :=
  match s.absence p with
  | some r => s.answer r
  | none =>
    let t := s.castVote p
    { state := t
      response := .ok
      results := { w0 := toWord t.voteCount, w1 := toWord t.device.quorum }
      resets := t.votedInConfig }

/-- VOTE_RESET is taken (R156). -/
def execVoteReset (p : Port) (s : State) : Host.Outcome State Fault Refusal := s.takeCommand p .voteReset (s.voteResetAnswer p)

/-- WITHDRAW_VOTE (R156, R157). -/
def State.withdrawVoteAnswer (s : State) (p : Port) (_a : Words6) : Answer :=
  match s.absence p with
  | some r => s.answer r
  | none =>
    let t := s.withdrawVote p
    t.answer .ok { w0 := toWord t.voteCount }

/-- WITHDRAW_VOTE is taken (R156). -/
def execWithdrawVote (p : Port) (s : State) : Host.Outcome State Fault Refusal :=
  s.takeCommand p .withdrawVote (s.withdrawVoteAnswer p)

/-! ### START and the quorum (R153, R154) -/

/-- START: CONFIG becomes RUN (R153). -/
def State.startAnswer (s : State) (p : Port) (_a : Words6) : Answer :=
  match s.settingCheck p with
  | some r => s.answer r
  | none => ({ s with device := { s.device with state := .run } } : State).answer .ok

/-- START is taken (R153). -/
def execStart (p : Port) (s : State) : Host.Outcome State Fault Refusal := s.takeCommand p .start (s.startAnswer p)

/-- SET_QUORUM: 2, 3 or 4; a vote count at the new quorum resets the device after the response (R154, R157). -/
def State.setQuorumAnswer (s : State) (p : Port) (a : Words6) : Answer :=
  match s.settingCheck p with
  | some r => s.answer r
  | none =>
    if a.w0 = 2 ∨ a.w0 = 3 ∨ a.w0 = 4 then
      let t : State := { s with device := { s.device with quorum := a.w0.toNat } }
      { state := t, response := .ok, results := { w0 := a.w0, w1 := toWord t.voteCount }, resets := t.votedInConfig }
    else s.answer .badArgument

/-- SET_QUORUM is taken (R154). -/
def execSetQuorum (p : Port) (s : State) : Host.Outcome State Fault Refusal := s.takeCommand p .setQuorum (s.setQuorumAnswer p)

/-! ### QUERY_DEVICE (R155) -/

/-- What QUERY_DEVICE reports (R155). -/
def State.deviceResults (s : State) : Words6 :=
  { w0 := toWord ((decide (s.device.state = .run)).toNat + 2 * s.engine.isSome.toNat + 4 * s.device.quorum +
      32 * s.voteCount + 256 * s.geometry.slotSize)
    w1 := toWord (s.device.authorization + 4096 * s.publishQueue.length)
    w2 := toWord (s.time.prescale - 1)
    w3 := toWord s.freeList.length
    w4 := toWord s.geometry.slotCount
    w5 := toWord s.watermark }

/-- QUERY_DEVICE: answered OK from a port in any state (R155, R125). -/
def State.queryDeviceAnswer (s : State) (_a : Words6) : Answer := s.answer .ok s.deviceResults

/-- QUERY_DEVICE is taken (R155). -/
def execQueryDevice (p : Port) (s : State) : Host.Outcome State Fault Refusal := s.takeCommand p .queryDevice s.queryDeviceAnswer

/-! ### The authorization counter (R157) -/

/-- In RUN with the vote count at the quorum or more, a base tick advances the counter (R157). -/
def State.quorate (s : State) : Bool := decide (s.device.state = .run) && decide (s.device.quorum ≤ s.voteCount)

/-- The share of a due base tick at device control: a device reset instead of reaching 4096, else one more, or nothing once the
count fell below the quorum (R157). -/
def State.takeAuthorization (s : State) : State :=
  let t : State := { s with due := { s.due with authorization := false } }
  if t.quorate then
    if Config.authorizationLimit ≤ t.device.authorization + 1 then t.deviceReset
    else { t with device := { t.device with authorization := t.device.authorization + 1 } }
  else t

/-- The base tick that is due at device control is taken there (R157; log 7). -/
def execAuthorizationExpiry (s : State) : Host.Outcome State Fault Refusal :=
  s.unlessPowerOn (if s.due.authorization then s.takeAuthorization else s)

/-! ### PORn (R152) -/

/-- PORn becomes asserted (R152). -/
def execPowerOnReset (s : State) : Host.Outcome State Fault Refusal := .next s.powerOn

/-- PORn is released: the part runs from the values it has (R152). -/
def execPornRelease (s : State) : Host.Outcome State Fault Refusal := .next { s with porAsserted := false }

end Sys2Proof.Machine
end

