-- ==== Sys2Proof/Machine/LockTable.lean ====
section
/-! DEFINITION. The lock table (Chapter 6): acquiring, releasing, renewing, cancelling, querying, lease settings, freezing and
lease expiry. -/

namespace Sys2Proof.Machine

/-! ### ACQUIRE (R99) -/

/-- The port joins the lock's waiter list at the tail (R99). -/
def State.joinList (s : State) (p : Port) (l : LockId) : State :=
  (s.updLock l fun k => { k with waiters := k.waiters ++ [p] }).setWait p (some l)

/-- The lease remaining as a result: 0 when absent (R99, R105, R108). -/
def leaseWord : Option Nat → Word
  | some n => toWord n
  | none => 0

/-- ACQUIRE: the conditions of R99 in their order. -/
def State.acquireAnswer (s : State) (p : Port) (a : Words6) : Answer :=
  match s.absence p with
  | some r => s.answer r
  | none =>
    if s.restricted p then s.answer .restricted
    else
      match lock? a.w0.toNat with
      | none => s.answer .badArgument
      | some l =>
        if 1 < a.w1.toNat then s.answer .badArgument
        else
          let k := s.locks.get l
          match k.grant with
          | none =>
            (s.updLock l fun k => k.grantTo p).answer .ok
              { w0 := lowWord (k.lastIssued + 1), w1 := highWord (k.lastIssued + 1), w2 := leaseWord (countdown k.leaseSetting) }
          | some g =>
            if g.holder = p then s.answer .alreadyHolder
            else if (s.waits.get p).isSome then s.answer .alreadyWaiting
            else if a.w1 = 0 then s.answer .denied { w0 := toWord g.holder.index }
            else (s.joinList p l).answer .queued { w0 := toWord (k.waiters.length + 1) }

/-- ACQUIRE is taken (R99). -/
def execAcquire (p : Port) (s : State) : Host.Outcome State Fault Refusal := s.takeCommand p .acquire (s.acquireAnswer p)

/-! ### RELEASE and RENEW (R101, R105) -/

/-- Orders 1 to 4 of R101: none when the port presents the current number of its own grant. -/
def Lock.grantCheck (k : Lock) (p : Port) (n : BitVec 32) : Option Response :=
  if k.grant.any fun g => decide (g.holder = p) && decide (g.number = n) then none
  else if k.revoked = some { number := n, port := p } then some .leaseExpired
  else if k.grant.any fun g => decide (g.holder = p) then some .staleGrant
  else some .notHolder

/-- Lock, number and order that RELEASE and RENEW are checked in: port state, lock number, R101. -/
def State.grantJudge (s : State) (p : Port) (a : Words6) : Except Response LockId :=
  match s.absence p with
  | some r => .error r
  | none =>
    match lock? a.w0.toNat with
    | none => .error .badArgument
    | some l =>
      match (s.locks.get l).grantCheck p (longOf a.w1 a.w2) with
      | some r => .error r
      | none => .ok l

/-- RELEASE: handoff; RESULT0 tells whether the lock became FREE or was handed on, RESULT1 to whom (R101). -/
def State.releaseAnswer (s : State) (p : Port) (a : Words6) : Answer :=
  match s.grantJudge p a with
  | .error r => s.answer r
  | .ok l =>
    match (s.locks.get l).waiters with
    | [] => (s.handoff l).answer .ok
    | w :: _ => (s.handoff l).answer .ok { w0 := 1, w1 := toWord w.index }

/-- RELEASE is taken (R101). -/
def execRelease (p : Port) (s : State) : Host.Outcome State Fault Refusal := s.takeCommand p .release (s.releaseAnswer p)

/-- The lock's lease restarted from the setting, or absent at setting 0 (R105). -/
def Lock.renewed (k : Lock) : Lock := { k with grant := k.grant.map fun g => { g with lease := countdown k.leaseSetting } }

/-- RENEW (R105). -/
def State.renewAnswer (s : State) (p : Port) (a : Words6) : Answer :=
  match s.grantJudge p a with
  | .error r => s.answer r
  | .ok l => (s.updLock l Lock.renewed).answer .ok { w0 := leaseWord (countdown (s.locks.get l).leaseSetting) }

/-- RENEW is taken (R105). -/
def execRenew (p : Port) (s : State) : Host.Outcome State Fault Refusal := s.takeCommand p .renew (s.renewAnswer p)

/-! ### CANCEL_WAIT (R107) -/

/-- CANCEL_WAIT (R107). -/
def State.cancelWaitAnswer (s : State) (p : Port) (a : Words6) : Answer :=
  match s.absence p with
  | some r => s.answer r
  | none =>
    match lock? a.w0.toNat with
    | none => s.answer .badArgument
    | some l =>
      if p ∈ (s.locks.get l).waiters then (s.leaveList p l).answer .ok
      else
        match (s.locks.get l).grant with
        | some g =>
          if g.holder = p then s.answer .notWaiting { w0 := 1, w1 := lowWord g.number, w2 := highWord g.number }
          else s.answer .notWaiting
        | none => s.answer .notWaiting

/-- CANCEL_WAIT is taken (R107). -/
def execCancelWait (p : Port) (s : State) : Host.Outcome State Fault Refusal := s.takeCommand p .cancelWait (s.cancelWaitAnswer p)

/-! ### QUERY_LOCK (R108) -/

/-- The port's place in the waiter list, from 1, or 0 (R108). -/
def Lock.place (k : Lock) (p : Port) : Nat := if p ∈ k.waiters then k.waiters.idxOf p + 1 else 0

/-- What QUERY_LOCK reports to the issuing port (R108). -/
def Lock.results (k : Lock) (p : Port) : Words6 :=
  let flags := 2 * (k.revoked.any fun r => decide (r.port = p)).toNat + 4 * k.frozen.toNat
  let common : Words6 := { w1 := bytesWord k.waiters.length (k.place p), w2 := toWord k.leaseSetting }
  match k.grant with
  | none => { common with w0 := bytesWord flags 0xFF }
  | some g =>
    let shown : Words6 := { common with w0 := bytesWord (1 + flags) g.holder.index, w3 := leaseWord g.lease }
    if g.holder = p then { shown with w4 := lowWord g.number, w5 := highWord g.number } else shown

/-- QUERY_LOCK (R108). -/
def State.queryLockAnswer (s : State) (p : Port) (a : Words6) : Answer :=
  match s.absence p with
  | some r => s.answer r
  | none =>
    match lock? a.w0.toNat with
    | none => s.answer .badArgument
    | some l => s.answer .ok ((s.locks.get l).results p)

/-- QUERY_LOCK is taken (R108). -/
def execQueryLock (p : Port) (s : State) : Host.Outcome State Fault Refusal := s.takeCommand p .queryLock (s.queryLockAnswer p)

/-! ### SET_LEASE and FREEZE_LOCK (R109, R110) -/

/-- The checks the two share: R27 with the lock number, then FROZEN. -/
def State.lockConfigJudge (s : State) (p : Port) (a : Words6) : Except Response LockId :=
  match s.configCheck p a with
  | some r => .error r
  | none =>
    match lock? a.w0.toNat with
    | none => .error .badArgument
    | some l => if (s.locks.get l).frozen then .error .frozen else .ok l

/-- SET_LEASE: governs later grants and renewals (R109). -/
def State.setLeaseAnswer (s : State) (p : Port) (a : Words6) : Answer :=
  match s.lockConfigJudge p a with
  | .error r => s.answer r
  | .ok l => (s.updLock l fun k => { k with leaseSetting := a.w1.toNat }).answer .ok { w0 := a.w1 }

/-- SET_LEASE is taken (R109). -/
def execSetLease (p : Port) (s : State) : Host.Outcome State Fault Refusal := s.takeCommand p .setLease (s.setLeaseAnswer p)

/-- FREEZE_LOCK (R110). -/
def State.freezeLockAnswer (s : State) (p : Port) (a : Words6) : Answer :=
  match s.lockConfigJudge p a with
  | .error r => s.answer r
  | .ok l => (s.updLock l fun k => { k with frozen := true }).answer .ok

/-- FREEZE_LOCK is taken (R110). -/
def execFreezeLock (p : Port) (s : State) : Host.Outcome State Fault Refusal := s.takeCommand p .freezeLock (s.freezeLockAnswer p)

/-! ### Lease expiry (R103, R104) -/

/-- The lease of grant `g` expires: revoked grant, handoff, LEASE_LOST at the former holder, and the report (R104). -/
def State.expireLease (s : State) (l : LockId) (g : Grant) : State :=
  ((((s.updLock l fun k => { k with revoked := some { number := g.number, port := g.holder } }).handoff l).raise g.holder
    .leaseLost).report g.holder .leaseExpiry)

/-- A lock whose lease falls by one. -/
def Lock.lowerLease (k : Lock) : Lock := { k with grant := k.grant.map fun g => { g with lease := g.lease.map (· - 1) } }

/-- A base tick at one lock: the lease expires at 1, falls by one above it, and an absent lease is not affected (R103, R104,
R106). That a lease renewed to a setting of 1 ahead of the due tick expires in it too (R103 against R106's "The expiry does not
happen") is the model's choice: DESIGN CHOICE, log 28. -/
def State.takeLease (s : State) (l : LockId) : State :=
  match (s.locks.get l).grant with
  | none => s
  | some g =>
    match g.lease with
    | none => s
    | some n => if 1 < n then s.updLock l Lock.lowerLease else s.expireLease l g

/-- The lock table takes a due base tick, one event: every running lease falls by one, and every lock whose lease ends expires
(R103). -/
def State.takeLeases (s : State) : State :=
  (indices 16).foldl State.takeLease { s with due := { s.due with locks := [] } }

/-- The base tick that ends the lease of lock `l` is taken by the lock table, for all its locks at once (R103, R104; log 7). -/
def execLeaseExpiry (l : LockId) (s : State) : Host.Outcome State Fault Refusal :=
  s.unlessPowerOn (if l ∈ s.due.locks then s.takeLeases else s)

end Sys2Proof.Machine
end

