-- ==== Sys2Proof/Machine/PortContext.lean ====
section
/-! DEFINITION. The port context unit (Chapter 8): attaching, detaching, QUERY_PORT, the port-reset input, the taking of reports
and the end of a cool-down. -/

namespace Sys2Proof.Machine

/-! ### ATTACH (R126) -/

/-- The record of a port whose ATTACH is accepted, after the success has lowered the score (R126). -/
def PortRecord.attach (r : PortRecord) (identity : Word) (quota : Nat) : PortRecord :=
  { r with
    state := .attached
    identity := identity
    quota := quota
    score := (if r.state = .isolated then 0 else r.score) - 1 }

/-- ATTACH: the checks of R126 in their order, then the attachment; the success is taken in the same event. -/
def State.attachAnswer (s : State) (p : Port) (a : Words6) : Answer :=
  let r := s.ports.get p
  if a.w0 = 0 ∨ a.w1 = 0 ∨ s.geometry.slotCount < a.w1.toNat then s.answer .badArgument
  else if r.state = .isolated ∧ 0 < r.coolDown then s.answer .cooling { w0 := toWord r.coolDown }
  else if r.state = .attached then s.answer .wrongState
  else
    let r' := r.attach a.w0 a.w1.toNat
    { state := (s.updPort p fun _ => r').updWindow p fun w => { w with cause := .none }
      response := .ok
      results := { w0 := toWord r'.score, w1 := r.identity, w2 := toWord r.account, w3 := toWord r.credits }
      scored := true }

/-- ATTACH is taken (R126). -/
def execAttach (p : Port) (s : State) : Host.Outcome State Fault Refusal := s.takeCommand p .attach (s.attachAnswer p)

/-! ### DETACH (R127) -/

/-- A port leaves: its score falls by one, it is purged, it is OFFLINE (R127). -/
def State.detached (s : State) (p : Port) : State :=
  ((s.lowerScore p).purge p).updPort p fun r => { r with state := .offline }

/-- DETACH: refused unless ATTACHED; the success is taken in the same event (R127). -/
def State.detachAnswer (s : State) (p : Port) (_a : Words6) : Answer :=
  match s.absence p with
  | some r => s.answer r
  | none =>
    let t := s.detached p
    { state := t, response := .ok, results := { w0 := toWord (t.ports.get p).account }, scored := true }

/-- DETACH is taken (R127). -/
def execDetach (p : Port) (s : State) : Host.Outcome State Fault Refusal := s.takeCommand p .detach (s.detachAnswer p)

/-! ### QUERY_PORT (R136) -/

/-- ARG0 of QUERY_PORT: 0 to 3, or FFFFh for the issuing port (R136). -/
def queriedPort? (p : Port) (w : Word) : Option Port := if w = anyWord then some p else Port.ofIndex? w.toNat

/-- Page 0 of a port's record (R136). -/
def State.portPage0 (s : State) (q : Port) : Words6 :=
  let r := s.ports.get q
  { w0 := bytesWord r.state.code r.score
    w1 := r.identity
    w2 := toWord r.account
    w3 := toWord r.quota
    w4 := match s.reservations.get q with
      | some i => toWord i.val
      | none => 0xFFFF
    w5 := bytesWord r.credits (match s.waits.get q with
      | some l => l.val
      | none => 0xFF) }

/-- Page 1 of a port's record (R136). -/
def State.portPage1 (s : State) (q : Port) : Words6 :=
  let r := s.ports.get q
  { w0 := toWord r.coolDown
    w1 := match r.level? with
      | some l => toWord l.code
      | none => 0xFF
    w2 := toWord r.vote.toNat
    w3 := toWord (s.windows.get q).cause.code
    w4 := toWord (s.completions.get q).length
    w5 := toWord (s.queues.get q).length }

/-- QUERY_PORT: one page of the named port's record, in every port state (R136, R125). -/
def State.queryPortAnswer (s : State) (p : Port) (a : Words6) : Answer :=
  match queriedPort? p a.w0 with
  | none => s.answer .badArgument
  | some q =>
    if a.w1 = 0 then s.answer .ok (s.portPage0 q)
    else if a.w1 = 1 then s.answer .ok (s.portPage1 q)
    else s.answer .badArgument

/-- QUERY_PORT is taken (R136). -/
def execQueryPort (p : Port) (s : State) : Host.Outcome State Fault Refusal := s.takeCommand p .queryPort (s.queryPortAnswer p)

/-! ### The port-reset input (R134) -/

/-- What the port-reset event does by the port state: purge and OFFLINE from ATTACHED; else the issued command and the pending
flags go (R134). -/
def State.portResetByState (s : State) (p : Port) : State :=
  if s.attached p then (s.purge p).updPort p fun r => { r with state := .offline }
  else (s.updWindow p Window.discard).clearPending p

/-- The port-reset event: by state, then enables, priorities, threshold and capture 0, cause PORT_RESET, command counter 0
(R134, R144, R151). -/
def State.portReset (s : State) (p : Port) : State :=
  ((s.portResetByState p).updEvents p fun _ => EventUnit.initial).updWindow p fun w =>
    { w with capture := 0, cause := .portReset, counter := 0 }

/-- PxRSTn becomes asserted; without effect while PORn is asserted (R134, R152). -/
def execPortReset (p : Port) (s : State) : Host.Outcome State Fault Refusal := s.unlessPowerOn (s.portReset p)

/-! ### Reports (R128) -/

/-- The port context unit takes one report that waits for it (R128); where none such waits the event does not occur (log 1). -/
def execFaultScoreReport (p : Port) (k : ReportKind) (s : State) : Host.Outcome State Fault Refusal :=
  s.unlessPowerOn (if { port := p, kind := k } ∈ s.reports then
    ({ s with reports := s.reports.erase { port := p, kind := k } }).score p k else s)

/-! ### Cool-down (R133) -/

/-- A base tick at a port's cool-down: that of an ISOLATED port falls by one, not below 0 (R133). -/
def PortRecord.cool (r : PortRecord) : PortRecord :=
  if r.state = .isolated then { r with coolDown := r.coolDown - 1 } else r

/-- The port context unit takes a due base tick, one event: every running cool-down falls by one (R133). -/
def State.takeCoolDowns (s : State) : State :=
  { s with due := { s.due with ports := [] }, ports := s.ports.map PortRecord.cool }

/-- The base tick that ends the cool-down of port `p` is taken by the port context unit, for all ports at once; no event (R133;
log 7). -/
def execCoolDownExpiry (p : Port) (s : State) : Host.Outcome State Fault Refusal :=
  s.unlessPowerOn (if p ∈ s.due.ports then s.takeCoolDowns else s)

end Sys2Proof.Machine
end

