-- ==== Sys2Proof/Machine/Channels.lean ====
section
/-! DEFINITION. The channel table (Chapter 2): defining and reconfiguring channels, subscriptions, suspending, closing, freezing
and the channel queries. -/

namespace Sys2Proof.Machine

/-! ### Checks (R27, R30, R31, R34) -/

/-- R27 with the channel number in ARG0. -/
def State.channelJudge (s : State) (p : Port) (a : Words6) : Except Response ChannelId :=
  match s.configCheck p a with
  | some r => .error r
  | none =>
    match channel? a.w0.toNat with
    | none => .error .badArgument
    | some ch => .ok ch

/-- UNUSED is NO_CHANNEL, frozen is FROZEN, CLOSING is WRONG_STATE, in this order (R30, R31, R34). -/
def State.openJudge (s : State) (ch : ChannelId) : Except Response ChannelDef :=
  match s.defn? ch with
  | none => .error .noChannel
  | some d =>
    if (s.channels.get ch).frozen then .error .frozen else if d.phase = .closing then .error .wrongState else .ok d

/-! ### DEFINE_CHANNEL and SET_CHANNEL (R29, R30) -/

/-- DEFINE_CHANNEL (R29). -/
def State.defineChannelAnswer (s : State) (p : Port) (a : Words6) : Answer :=
  match s.channelJudge p a with
  | .error r => s.answer r
  | .ok ch =>
    match kind? a.w1, publishers? a.w2 with
    | some kind, some publishers =>
      match s.defn? ch with
      | some _ => s.answer .wrongState
      | none =>
        (s.updChannel ch fun c =>
          { c with
            defn := some
              { phase := .active, kind := kind, publishers := publishers, lifetime := a.w3.toNat,
                subs := PerPort.all none, current := none } }).answer .ok { w0 := (s.channels.get ch).seq }
    | _, _ => s.answer .badArgument

/-- DEFINE_CHANNEL is taken (R29). -/
def execDefineChannel (p : Port) (s : State) : Host.Outcome State Fault Refusal :=
  s.takeCommand p .defineChannel (s.defineChannelAnswer p)

/-- SET_CHANNEL; a publisher set above the fourth position is out of range (R30, R27 check 4; DEDUCED, log 15). -/
def State.setChannelAnswer (s : State) (p : Port) (a : Words6) : Answer :=
  match s.channelJudge p a with
  | .error r => s.answer r
  | .ok ch =>
    match publishers? a.w2 with
    | none => s.answer .badArgument
    | some publishers =>
      match s.openJudge ch with
      | .error r => s.answer r
      | .ok _ => (s.updDefn ch fun d => { d with publishers := publishers, lifetime := a.w3.toNat }).answer .ok

/-- SET_CHANNEL is taken (R30). -/
def execSetChannel (p : Port) (s : State) : Host.Outcome State Fault Refusal := s.takeCommand p .setChannel (s.setChannelAnswer p)

/-! ### SUBSCRIBE (R31, R32) -/

/-- The channel and port a word names: channel in the low byte, port in the high byte (2.5). -/
def channelPort? (w : Word) : Option (ChannelId × Port) :=
  match channel? (lowByte w), Port.ofIndex? (highByte w) with
  | some ch, some q => some (ch, q)
  | _, _ => none

/-- The depth and policy ARG1 packs (R31). -/
def depthPolicy? (w : Word) : Option (Nat × Policy) :=
  match depth? (lowByte w), policy? (highByte w) with
  | some d, some o => some (d, o)
  | _, _ => none

/-- A record created by SUBSCRIBE: counts 0, NEW clear (R31). -/
def Subscription.create (depth : Nat) (policy : Policy) (tagMatch tagMask : Word) : Subscription :=
  { depth := depth, policy := policy, tagMatch := tagMatch, tagMask := tagMask, lost := 0, expired := 0, superseded := 0,
    new := false }

/-- The oldest `k` entries of the channel in the port's queue are lost (R32). -/
def State.trim (s : State) (p : Port) (ch : ChannelId) : Nat → State
  | 0 => s
  | k + 1 => (s.loseOldest p ch).trim p ch k

/-- How many entries of the channel a new depth trims: the excess on a STREAM channel (R32). -/
def State.excess (s : State) (q : Port) (ch : ChannelId) (kind : ChannelKind) (depth : Nat) : Nat :=
  match kind with
  | .stream => s.entriesOf q ch - depth
  | .state => 0

/-- The channel definition with a port's subscription record set or removed. -/
def State.setSub (s : State) (ch : ChannelId) (q : Port) (b : Option Subscription) : State :=
  s.updDefn ch fun d => { d with subs := d.subs.set q b }

/-- SUBSCRIBE: the record is created, or replaced with its counts and NEW flag kept and the excess trimmed (R31, R32). -/
def State.subscribeAnswer (s : State) (p : Port) (a : Words6) : Answer :=
  match s.configCheck p a with
  | some r => s.answer r
  | none =>
    match channelPort? a.w0, depthPolicy? a.w1 with
    | some (ch, q), some (depth, policy) =>
      match s.openJudge ch with
      | .error r => s.answer r
      | .ok d =>
        match d.subs.get q with
        | none => (s.setSub ch q (some (Subscription.create depth policy a.w2 a.w3))).answer .ok
        | some b =>
          let k := s.excess q ch d.kind depth
          ((s.setSub ch q (some { b with depth := depth, policy := policy, tagMatch := a.w2, tagMask := a.w3 })).trim q ch
            k).answer .ok { w0 := toWord k, w1 := 1 }
    | _, _ => s.answer .badArgument

/-- SUBSCRIBE is taken (R31, R32). -/
def execSubscribe (p : Port) (s : State) : Host.Outcome State Fault Refusal := s.takeCommand p .subscribe (s.subscribeAnswer p)

/-! ### UNSUBSCRIBE (R34) -/

/-- UNSUBSCRIBE: the port's entries of the channel are removed and released, then the record with its NEW flag and counts (R34). -/
def State.unsubscribeAnswer (s : State) (p : Port) (a : Words6) : Answer :=
  match s.configCheck p a with
  | some r => s.answer r
  | none =>
    match channelPort? a.w0 with
    | none => s.answer .badArgument
    | some (ch, q) =>
      match s.openJudge ch with
      | .error r => s.answer r
      | .ok d =>
        match d.subs.get q with
        | none => s.answer .notSubscriber
        | some _ =>
          ((s.dropEntries q fun e => decide (e.channel = ch)).setSub ch q none).answer .ok { w0 := toWord (s.entriesOf q ch) }

/-- UNSUBSCRIBE is taken (R34). -/
def execUnsubscribe (p : Port) (s : State) : Host.Outcome State Fault Refusal :=
  s.takeCommand p .unsubscribe (s.unsubscribeAnswer p)

/-! ### SUSPEND and RESUME (R35) -/

/-- The attached ports of a channel's subscriber set, in port order (R24, R35). -/
def State.attachedSubscribers (s : State) (d : ChannelDef) : List Port :=
  Port.all.filter fun q => (d.subs.get q).isSome && s.attached q

/-- The channel moves to another phase and CHANNEL is raised at its attached subscribers (R35). -/
def State.setPhase (s : State) (ch : ChannelId) (d : ChannelDef) (phase : ChannelPhase) : State :=
  (s.updDefn ch fun e => { e with phase := phase }).raiseAll .channel (s.attachedSubscribers d)

/-- SUSPEND: from ACTIVE (R35). -/
def State.suspendAnswer (s : State) (p : Port) (a : Words6) : Answer :=
  match s.channelJudge p a with
  | .error r => s.answer r
  | .ok ch =>
    match s.defn? ch with
    | none => s.answer .noChannel
    | some d => if d.phase = .active then (s.setPhase ch d .suspended).answer .ok else s.answer .wrongState

/-- SUSPEND is taken (R35). -/
def execSuspend (p : Port) (s : State) : Host.Outcome State Fault Refusal := s.takeCommand p .suspend (s.suspendAnswer p)

/-- RESUME: from SUSPENDED (R35). -/
def State.resumeAnswer (s : State) (p : Port) (a : Words6) : Answer :=
  match s.channelJudge p a with
  | .error r => s.answer r
  | .ok ch =>
    match s.defn? ch with
    | none => s.answer .noChannel
    | some d => if d.phase = .suspended then (s.setPhase ch d .active).answer .ok else s.answer .wrongState

/-- RESUME is taken (R35). -/
def execResume (p : Port) (s : State) : Host.Outcome State Fault Refusal := s.takeCommand p .resume (s.resumeAnswer p)

/-! ### CLOSE (R36, R37) -/

/-- A request's slot belongs to the channel (R50: the channel is read from the slot record). -/
def State.requestOn (s : State) (ch : ChannelId) (r : Request) : Bool :=
  (s.message? r.slot).any fun m => decide (m.channel = ch)

/-- The engine is spreading a message of the channel (R36). -/
def State.spreadingOn (s : State) (ch : ChannelId) : Bool := s.engine.any fun f => s.requestOn ch f.request

/-- Step 1: every request of the channel leaves the publish queue, in queue order (R36). -/
def State.closeRequests (s : State) (ch : ChannelId) : State :=
  (s.publishQueue.filter (s.requestOn ch)).foldl (State.withdraw · .channelClosed)
    { s with publishQueue := s.publishQueue.filter fun r => !s.requestOn ch r }

/-- Step 2: every entry of the channel leaves every delivery queue, in port order and oldest first (R36). -/
def State.closeEntries (s : State) (ch : ChannelId) : State :=
  Port.all.foldl (fun t q => t.dropEntries q fun e => decide (e.channel = ch)) s

/-- Step 3: the state current, if present, is released (R36, R94). -/
def State.closeCurrent (s : State) (d : ChannelDef) : State :=
  match d.current with
  | some i => s.release i
  | none => s

/-- The close taking effect: steps 1 to 6 of R36, then CHANNEL at each former subscriber that is ATTACHED. -/
def State.closeChannel (s : State) (ch : ChannelId) : State :=
  match s.defn? ch with
  | none => s
  | some d =>
    ((((s.closeRequests ch).closeEntries ch).closeCurrent d).updChannel ch fun c => { c with defn := none }).raiseAll .channel
      (s.attachedSubscribers d)

/-- CLOSE: at once, or CLOSING while the engine spreads a message of the channel (R36, R37). -/
def State.closeAnswer (s : State) (p : Port) (a : Words6) : Answer :=
  match s.channelJudge p a with
  | .error r => s.answer r
  | .ok ch =>
    match s.defn? ch with
    | none => s.answer .noChannel
    | some d =>
      if (s.channels.get ch).frozen then s.answer .frozen
      else if d.phase = .closing then s.answer .closePending
      else if s.spreadingOn ch then (s.updDefn ch fun e => { e with phase := .closing }).answer .closePending
      else
        (s.closeChannel ch).answer .ok
          { w0 := toWord (s.publishQueue.countP (s.requestOn ch))
            w1 := toWord (s.entriesOf .A ch + s.entriesOf .B ch + s.entriesOf .C ch + s.entriesOf .D ch) }

/-- CLOSE is taken (R36, R37). -/
def execClose (p : Port) (s : State) : Host.Outcome State Fault Refusal := s.takeCommand p .close (s.closeAnswer p)

/-! ### FREEZE_CHANNEL (R39) -/

/-- FREEZE_CHANNEL (R39). -/
def State.freezeChannelAnswer (s : State) (p : Port) (a : Words6) : Answer :=
  match s.channelJudge p a with
  | .error r => s.answer r
  | .ok ch =>
    if (s.channels.get ch).frozen then s.answer .frozen
    else
      match s.defn? ch with
      | none => s.answer .wrongState
      | some d =>
        if d.phase = .closing then s.answer .wrongState
        else (s.updChannel ch fun c => { c with frozen := true }).answer .ok

/-- FREEZE_CHANNEL is taken (R39). -/
def execFreezeChannel (p : Port) (s : State) : Host.Outcome State Fault Refusal :=
  s.takeCommand p .freezeChannel (s.freezeChannelAnswer p)

/-! ### The channel queries (R40, R41) -/

/-- The descriptor as QUERY_CHANNEL reports it (R40). -/
def Channel.results (c : Channel) : Words6 :=
  match c.defn with
  | none => { w4 := c.seq, w5 := bytesWord 0 c.frozen.toNat }
  | some d =>
    { w0 := toWord d.phase.code
      w1 := toWord d.kind.code
      w2 := d.publishers.setWidth 16
      w3 := toWord d.lifetime
      w4 := c.seq
      w5 := bytesWord (portBits fun q => (d.subs.get q).isSome) c.frozen.toNat }

/-- QUERY_CHANNEL (R40). -/
def State.queryChannelAnswer (s : State) (p : Port) (a : Words6) : Answer :=
  match s.absence p with
  | some r => s.answer r
  | none =>
    match channel? a.w0.toNat with
    | none => s.answer .badArgument
    | some ch => s.answer .ok (s.channels.get ch).results

/-- QUERY_CHANNEL is taken (R40). -/
def execQueryChannel (p : Port) (s : State) : Host.Outcome State Fault Refusal :=
  s.takeCommand p .queryChannel (s.queryChannelAnswer p)

/-- The record as QUERY_SUBSCRIPTION reports it (R41). -/
def Subscription.results (b : Subscription) : Words6 :=
  { w0 := bytesWord b.depth ((decide (b.policy = .keepNewest)).toNat + 2 * b.new.toNat)
    w1 := b.tagMatch
    w2 := b.tagMask
    w3 := toWord b.lost
    w4 := toWord b.expired
    w5 := toWord b.superseded }

/-- The counts are set to 0 (R26, R41). -/
def Subscription.clearCounts (b : Subscription) : Subscription := { b with lost := 0, expired := 0, superseded := 0 }

/-- QUERY_SUBSCRIPTION: the record, or zeros when absent; a clear request clears the issuing port's own counts (R41). -/
def State.querySubscriptionAnswer (s : State) (p : Port) (a : Words6) : Answer :=
  match s.absence p with
  | some r => s.answer r
  | none =>
    match channelPort? a.w0 with
    | none => s.answer .badArgument
    | some (ch, q) =>
      if 1 < a.w1.toNat ∨ (a.w1 = 1 ∧ q ≠ p) then s.answer .badArgument
      else
        match s.sub? ch q with
        | none => s.answer .ok
        | some b =>
          (if a.w1 = 1 then s.updSub ch q Subscription.clearCounts else s).answer .ok b.results

/-- QUERY_SUBSCRIPTION is taken (R41). -/
def execQuerySubscription (p : Port) (s : State) : Host.Outcome State Fault Refusal :=
  s.takeCommand p .querySubscription (s.querySubscriptionAnswer p)

end Sys2Proof.Machine
end

