-- ==== Sys2Proof/Machine/Publishing.lean ====
section
/-! DEFINITION. Publishing and the delivery engine (Chapter 3): PUBLISH, COLLECT, fan-out start, placement, fan-out end. -/

namespace Sys2Proof.Machine

/-! ### PUBLISH (R45, R46) -/

/-- The reservation `i` becomes a PENDING request under the channel's next sequence number (R46). -/
def State.acceptPublish (s : State) (p : Port) (i : SlotId) (ch : ChannelId) (q : Port) (d : ChannelDef) (a : Words6) : State :=
  let seq := (s.channels.get ch).seq + 1
  let t := ((s.updChannel ch fun c => { c with seq := seq }).updSlot i fun r =>
    { r with
      use := .message
        { phase := .pending, channel := ch, account := q, seq := seq, tag := a.w1, length := a.w0.toNat,
          lifetime := countdown d.lifetime } }).updPort p fun r => { r with credits := r.credits - 1 }
  ({ t with publishQueue := t.publishQueue ++ [{ slot := i, publisher := p, orphaned := false }] } : State).dropReservation p

/-- Orders 5 to 10 of R45, for a reservation on channel `ch` defined as `d`; the two BUSY cases carry RESULT0. -/
def State.publishCheck (s : State) (p : Port) (d : ChannelDef) (a : Words6) : Option (Response × Word) :=
  if d.phase = .closing then some (.closed, 0)
  else if d.phase = .suspended then some (.suspended, 0)
  else if !d.publishers.getLsbD p.index then some (.notPublisher, 0)
  else if a.w0 = 0 ∨ s.geometry.slotSize < a.w0.toNat then some (.length, 0)
  else if (s.ports.get p).credits = 0 then some (.busy, 1)
  else if Config.publishLimit ≤ s.publishQueue.length then some (.busy, 2)
  else none

/-- The slot, channel and account port of the port's reservation (R10). -/
def State.reservation? (s : State) (p : Port) : Option (SlotId × ChannelId × Port) :=
  match s.reservations.get p with
  | none => none
  | some i =>
    match (s.slots.get i).use with
    | .filling ch q => some (i, ch, q)
    | .free => none
    | .message _ => none

/-- PUBLISH: the checks of R45 in their order, then the acceptance of R46. -/
def State.publishAnswer (s : State) (p : Port) (a : Words6) : Answer :=
  match s.trafficCheck p with
  | some r => s.answer r
  | none =>
    if s.restricted p then s.answer .restricted
    else
      match s.reservation? p with
      | none => s.answer .noReservation
      | some (i, ch, q) =>
        match s.defn? ch with
        | none => s.answer .closed
        | some d =>
          match s.publishCheck p d a with
          | some (r, w) => s.answer r { w0 := w }
          | none =>
            let t := s.acceptPublish p i ch q d a
            t.answer .ok { w0 := (t.channels.get ch).seq, w1 := toWord i.val, w2 := toWord (t.ports.get p).credits }

/-- PUBLISH is taken (R45, R46). -/
def execPublish (p : Port) (s : State) : Host.Outcome State Fault Refusal := s.takeCommand p .publish (s.publishAnswer p)

/-! ### COLLECT (R60) -/

/-- What COLLECT reports of a record, with the records remaining (R60). -/
def Completion.results (c : Completion) (remaining : Nat) : Words6 :=
  { w0 := toWord c.channel.val
    w1 := c.seq
    w2 := toWord c.outcome.code
    w3 := bytesWord c.counts.placed c.counts.filtered
    w4 := bytesWord c.counts.offline c.counts.dropped
    w5 := toWord remaining }

/-- COLLECT: the oldest record is removed and a credit freed (R60). -/
def State.collectAnswer (s : State) (p : Port) (_a : Words6) : Answer :=
  match s.trafficCheck p with
  | some r => s.answer r
  | none =>
    match s.completions.get p with
    | [] => s.answer .empty
    | c :: rest =>
      (({ s with completions := s.completions.set p rest } : State).updPort p fun r =>
        { r with credits := r.credits + 1 }).answer .ok (c.results rest.length)

/-- COLLECT is taken (R60). -/
def execCollect (p : Port) (s : State) : Host.Outcome State Fault Refusal := s.takeCommand p .collect (s.collectAnswer p)

/-! ### Fan-out start (R52) -/

/-- A slot record whose message moves to another phase. -/
def Slot.withPhase (r : Slot) (phase : MessagePhase) : Slot :=
  match r.use with
  | .message m => { r with use := .message { m with phase := phase } }
  | .free => r
  | .filling _ _ => r

/-- The head request `r` becomes the current request, its slot SPREADING, the cursor at A (R52). -/
def State.takeHead (s : State) (r : Request) (rest : List Request) : State :=
  ({ s with
    publishQueue := rest
    engine := some { request := r, cursor := .visit .A, counts := Counts.zero, expired := false } } : State).updSlot r.slot
    fun x => x.withPhase .spreading

/-- The fan-out start of request `r` with message `m`; on a STATE channel it installs the current value (R52, R85). -/
def State.startFanOut (s : State) (r : Request) (rest : List Request) (m : Message) : State :=
  let t := s.takeHead r rest
  match t.defn? m.channel with
  | none => t
  | some d =>
    match d.kind with
    | .stream => t
    | .state => t.installCurrent m.channel d r.slot

/-- What a fan-out start takes: the head request and its message, while the engine is IDLE and the queue not empty (R52). -/
def State.fanOutReady (s : State) : Option (Request × List Request × Message) :=
  if s.porAsserted || s.engine.isSome then none
  else
    match s.publishQueue with
    | [] => none
    | r :: rest => (s.message? r.slot).map fun m => (r, rest, m)

/-- FAN_OUT_START (R52); where it is not due the event does not occur (log 1). -/
def execFanOutStart (s : State) : Host.Outcome State Fault Refusal :=
  .next (match s.fanOutReady with
    | some (r, rest, m) => s.startFanOut r rest m
    | none => s)

/-! ### Placement events (R53 to R57) -/

/-- After the event at a port the cursor moves on: from A to B, from B to C, from C to D, from D to END (R53). -/
def Cursor.after : Port → Cursor
  | .A => .visit .B
  | .B => .visit .C
  | .C => .visit .D
  | .D => .finish

/-- A tag is accepted when it agrees with the match in every position the mask selects (R25). -/
def Subscription.accepts (b : Subscription) (tag : Word) : Bool := decide ((tag ^^^ b.tagMatch) &&& b.tagMask = 0)

/-- How a placement event classes a port (R53). -/
inductive Visit where
  | unsubscribed
  | offline
  | filtered
  | stream (b : Subscription)
  | state
  deriving DecidableEq, Repr

/-- The first condition of R53 that holds. -/
def State.classify (s : State) (m : Message) (p : Port) : Visit :=
  match s.defn? m.channel with
  | none => .unsubscribed
  | some d =>
    match d.subs.get p with
    | none => .unsubscribed
    | some b =>
      if !s.attached p then .offline
      else if !b.accepts m.tag then .filtered
      else
        match d.kind with
        | .stream => .stream b
        | .state => .state

/-- The entry a placement makes: the message's particulars with the publisher of the request (R54, R69). -/
def Message.placed (m : Message) (r : Request) : Entry :=
  { slot := r.slot, channel := m.channel, seq := m.seq, tag := m.tag, length := m.length, publisher := r.publisher }

/-- The message is placed: an entry at the tail, one more reference, QUEUE raised (R54). -/
def State.place (s : State) (p : Port) (e : Entry) : State :=
  ((s.setQueue p (s.queues.get p ++ [e])).addRef e.slot).raise p .queue

/-- There is room: n below the depth and q below 64 (R54). -/
def State.hasRoom (s : State) (p : Port) (b : Subscription) (ch : ChannelId) : Bool :=
  decide (s.entriesOf p ch < b.depth) && decide ((s.queues.get p).length < Config.queueLimit)

/-- On overflow, the oldest entry of the channel gives way: KEEP_NEWEST with n at least 1 (R55). -/
def State.displaces (s : State) (p : Port) (b : Subscription) (ch : ChannelId) : Bool :=
  decide (b.policy = .keepNewest) && decide (0 < s.entriesOf p ch)

/-- A STREAM placement: placed, placed with displacement, or dropped and counted lost; and whether it counts as placed (R54,
R55). -/
def State.placeStream (s : State) (p : Port) (b : Subscription) (e : Entry) : State × Bool :=
  if s.hasRoom p b e.channel then (s.place p e, true)
  else if s.displaces p b e.channel then ((s.loseOldest p e.channel).place p e, true)
  else (s.countLost p e.channel, false)

/-- The engine after a visit: counts as given, cursor moved on (R53). -/
def State.advance (s : State) (f : FanOut) (p : Port) (n : Counts) : State :=
  { s with engine := some { f with cursor := Cursor.after p, counts := n } }

/-- The placement event at port `p` of fan-out `f` with message `m` (R53). -/
def State.visit (s : State) (f : FanOut) (p : Port) (m : Message) : State :=
  let n := f.counts
  match s.classify m p with
  | .unsubscribed => s.advance f p n
  | .offline => s.advance f p { n with offline := n.offline + 1 }
  | .filtered => s.advance f p { n with filtered := n.filtered + 1 }
  | .stream b =>
    match s.placeStream p b (m.placed f.request) with
    | (t, true) => t.advance f p { n with placed := n.placed + 1 }
    | (t, false) => t.advance f p { n with dropped := n.dropped + 1 }
  | .state => (s.notify m.channel p).advance f p { n with placed := n.placed + 1 }

/-- What the next placement event visits: the fan-out, the port at its cursor, the message (R51, R53). -/
def State.placementReady (s : State) : Option (FanOut × Port × Message) :=
  if s.porAsserted then none
  else
    match s.engine with
    | none => none
    | some f =>
      match f.cursor with
      | .finish => none
      | .visit p => (s.message? f.request.slot).map fun m => (f, p, m)

/-- PLACEMENT_EVENT (R53); where none is next the event does not occur (log 1). -/
def execPlacementEvent (s : State) : Host.Outcome State Fault Refusal :=
  .next (match s.placementReady with
    | some (f, p, m) => s.visit f p m
    | none => s)

/-! ### Fan-out end (R58) -/

/-- The outcome of the record (R58). -/
def FanOut.outcome (f : FanOut) : PublishOutcome :=
  if f.expired then .expired else if 0 < f.counts.placed then .delivered else .noneDelivered

/-- A SPREADING slot becomes LIVE; FREE and EXPIRED stay (R58). -/
def Slot.settle (r : Slot) : Slot :=
  match r.use with
  | .message m => if m.phase = .spreading then r.withPhase .live else r
  | .free => r
  | .filling _ _ => r

/-- A deferred close takes effect (R37, R58). -/
def State.closeIfClosing (s : State) (ch : ChannelId) : State :=
  if (s.defn? ch).any fun d => decide (d.phase = .closing) then s.closeChannel ch else s

/-- The fan-out end in its four steps (R58). -/
def State.endFanOut (s : State) (f : FanOut) (m : Message) : State :=
  let s1 := (s.release f.request.slot).updSlot f.request.slot Slot.settle
  let s2 := s1.retire f.request m f.outcome f.counts
  let s3 : State := { s2 with engine := none }
  s3.closeIfClosing m.channel

/-- What the fan-out end ends: the fan-out whose cursor reads END, and its message (R51, R58). -/
def State.endReady (s : State) : Option (FanOut × Message) :=
  if s.porAsserted then none
  else
    match s.engine with
    | none => none
    | some f =>
      match f.cursor with
      | .visit _ => none
      | .finish => (s.message? f.request.slot).map fun m => (f, m)

/-- FAN_OUT_END (R58); where it is not next the event does not occur (log 1). -/
def execFanOutEnd (s : State) : Host.Outcome State Fault Refusal :=
  .next (match s.endReady with
    | some (f, m) => s.endFanOut f m
    | none => s)

end Sys2Proof.Machine
end

