-- ==== Sys2Proof/Machine/Clock.lean ====
section
/-! DEFINITION. The time base and message lifetimes (Chapter 7): SET_TIMEBASE, TICK_COUNT, REFCLK, the base tick and the expiry
of a slot. -/

namespace Sys2Proof.Machine

/-! ### SET_TIMEBASE and TICK_COUNT (R116, R117) -/

/-- SET_TIMEBASE: P becomes ARG0 + 1, the prescale count 0 (R116). -/
def State.setTimebaseAnswer (s : State) (p : Port) (a : Words6) : Answer :=
  match s.settingCheck p with
  | some r => s.answer r
  | none =>
    ({ s with time := { s.time with prescale := a.w0.toNat + 1, count := 0 } } : State).answer .ok { w0 := a.w0 }

/-- SET_TIMEBASE is taken (R116). -/
def execSetTimebase (p : Port) (s : State) : Host.Outcome State Fault Refusal :=
  s.takeCommand p .setTimebase (s.setTimebaseAnswer p)

/-- A read of TICK_COUNT: the low word, with the high word captured; or the capture (R117). -/
def State.readTicks (s : State) (p : Port) (h : Half) : State :=
  match h with
  | .low => (s.updWindow p fun w => { w with capture := highWord s.time.ticks }).driveData p (lowWord s.time.ticks)
  | .high => s.driveData p (s.windows.get p).capture

/-- TICK_COUNT is read (R117); reads return 0 while PORn is asserted (R152). -/
def execTickCount (p : Port) (h : Half) (s : State) : Host.Outcome State Fault Refusal :=
  .next (if s.porAsserted then s.driveData p 0 else s.readTicks p h)

/-! ### The expiry of a slot (R120) -/

/-- A port's entry of the slot is removed, released and counted expired (R120). -/
def State.expireEntries (s : State) (i : SlotId) (ch : ChannelId) (p : Port) : State :=
  if (s.queues.get p).any fun e => decide (e.slot = i) then
    (s.dropEntries p fun e => decide (e.slot = i)).countExpired p ch
  else s

/-- The expiry of a LIVE slot: EXPIRED, its entries removed in port order, its current value withdrawn; the last release frees it
(R120, R92, R121; log 25). -/
def State.expireLive (s : State) (i : SlotId) (m : Message) : State :=
  (Port.all.foldl (fun t p => t.expireEntries i m.channel p)
    (s.updSlot i fun r => { r with use := .message { m with phase := .expired, lifetime := none } })).withdrawCurrent m.channel i

/-- The engine's expired mark is set and its cursor moved to END, if it is spreading the slot (R64). -/
def State.markExpired (s : State) (i : SlotId) : State :=
  { s with engine := s.engine.map fun f => if f.request.slot = i then { f with expired := true, cursor := .finish } else f }

/-- The expiry of a PENDING slot: its request leaves the publish queue with outcome EXPIRED, its slot is freed (R63). -/
def State.expirePending (s : State) (i : SlotId) : State :=
  (s.publishQueue.filter fun r => decide (r.slot = i)).foldl (State.withdraw · .expired)
    { s with publishQueue := s.publishQueue.filter fun r => !decide (r.slot = i) }

/-- The expiry of a slot according to its state (R120). -/
def State.expireSlot (s : State) (i : SlotId) (m : Message) : State :=
  match m.phase with
  | .pending => s.expirePending i
  | .spreading => (s.markExpired i).expireLive i m
  | .live => s.expireLive i m
  | .expired => s

/-- The share of a due base tick at a slot: its lifetime ends and the slot is expired (R119, R120). -/
def State.takeLifetime (s : State) (i : SlotId) : State :=
  let t : State := { s with due := { s.due with slots := s.due.slots.filter fun j => decide (j ≠ i) } }
  match t.message? i with
  | none => t
  | some m => if m.lifetime.isSome then t.expireSlot i m else t

/-- The base tick that is due at a slot is taken there (R120; log 7). -/
def execLifetimeExpiry (i : SlotId) (s : State) : Host.Outcome State Fault Refusal :=
  s.unlessPowerOn (if i ∈ s.due.slots then s.takeLifetime i else s)

/-! ### The base tick (R115, R118) -/

/-- A countdown that the tick brings to its end. -/
def ending (n : Option Nat) : Bool := n.any fun k => decide (k ≤ 1)

/-- A countdown that the tick lowers by one and does not bring to its end. -/
def lowered (n : Option Nat) : Option Nat := n.map fun k => if 1 < k then k - 1 else k

/-- A slot record at a tick: its lifetime remaining, unless it ends (R119). -/
def Slot.tick (r : Slot) : Slot :=
  match r.use with
  | .message m => { r with use := .message { m with lifetime := lowered m.lifetime } }
  | .free => r
  | .filling _ _ => r

/-- A lock record at a tick that ends no lease (R103). -/
def Lock.tick (k : Lock) : Lock := { k with grant := k.grant.map fun g => { g with lease := lowered g.lease } }

/-- A running cool-down: that of an ISOLATED port, above 0 (R133). -/
def PortRecord.cooling? (r : PortRecord) : Option Nat := if r.state = .isolated ∧ 0 < r.coolDown then some r.coolDown else none

/-- Device control at a tick: one more while quorate in RUN, unless it would reach the limit (R157). -/
def State.deviceTick (s : State) : Device :=
  if s.quorate ∧ s.device.authorization + 1 < Config.authorizationLimit then
    { s.device with authorization := s.device.authorization + 1 }
  else s.device

/-- The countdowns a tick brings to their ends (log 7). For a slot its expiry is due; for a lock, the lock table's tick; for a port, the
port context unit's; for the flag, device control's. -/
def State.dueNow (s : State) : Due :=
  { slots := (indices 256).filter fun i => (s.message? i).any fun m => ending m.lifetime
    locks := (indices 16).filter fun l => (s.locks.get l).grant.any fun g => ending g.lease
    ports := Port.all.filter fun p => ending (s.ports.get p).cooling?
    authorization := s.quorate && decide (Config.authorizationLimit ≤ s.device.authorization + 1) }

/-- One base tick delivered: the prescale count 0, the tick counter one on, every running lifetime one lower but those that end. The
lock table, the port context unit and device control take it at once where it ends no countdown of theirs; else it is due there whole
(R115, R117, R118; log 7). -/
def State.deliverTick (s : State) : State :=
  { s with
    time := { s.time with count := 0, ticks := s.time.ticks + 1 }
    slots := s.slots.map Slot.tick
    locks := if s.dueNow.locks = [] then s.locks.map Lock.tick else s.locks
    ports := if s.dueNow.ports = [] then s.ports.map PortRecord.cool else s.ports
    device := s.deviceTick
    due := s.dueNow }

/-- The shares of the previous tick that nobody has taken are taken: slots in ascending order, the lock table, then the port context
unit (DESIGN CHOICE, log 8). -/
def State.settleShares (s : State) : State :=
  let t := s.due.slots.foldl State.takeLifetime s
  let u := if t.due.locks = [] then t else t.takeLeases
  if u.due.ports = [] then u else u.takeCoolDowns

/-- A base tick: what is left of the previous one is taken first; where that resets the device, the reset removes the tick (R158;
log 8). -/
def State.baseTick (s : State) : State :=
  let t := s.settleShares
  if t.due.authorization then
    (if t.quorate && decide (Config.authorizationLimit ≤ t.device.authorization + 1) then t.deviceReset
     else t.takeAuthorization.deliverTick)
  else t.deliverTick

/-- The REFCLK cycle in progress would take the count to P (R115). -/
def State.tickNext (s : State) : Bool := decide (s.time.prescale ≤ s.time.count + 1)

/-- BASE_TICK: the cycle that completes a tick period (R115); before it the event does not occur (log 1). -/
def execBaseTick (s : State) : Host.Outcome State Fault Refusal := s.unlessPowerOn (if s.tickNext then s.baseTick else s)

/-- A REFCLK cycle advances the count by one, or completes the period with a base tick (R115; log 2). -/
def execRefclkCycle (s : State) : Host.Outcome State Fault Refusal :=
  s.unlessPowerOn (if s.tickNext then s.baseTick else { s with time := { s.time with count := s.time.count + 1 } })

end Sys2Proof.Machine
end

