-- ==== Sys2Proof/Machine/EventUnits.lean ====
section
/-! DEFINITION. The event units' window locations (R139, R140) and the interrupt line (R141). -/

namespace Sys2Proof.Machine

/-! ### Writes (R139, R140): taken in every port state -/

/-- EVENT_PENDING is written: the flags at the positions written as 1 are cleared (R139). -/
def execEventPending (p : Port) (w : Word) (s : State) : Host.Outcome State Fault Refusal :=
  s.unlessPowerOn (s.updEvents p fun u => u.clear w)

/-- EVENT_ENABLE is written; positions 12 to 15 are ignored (R140). -/
def execEventEnable (p : Port) (w : Word) (s : State) : Host.Outcome State Fault Refusal :=
  s.unlessPowerOn (s.updEvents p fun u => { u with enable := w.extractLsb' 0 12 })

/-- The priorities with those of events 0 to 7 (`low`) or 8 to 11 (`high`) replaced; the upper half of 13h is ignored (R140). -/
def EventUnit.setPriorities (u : EventUnit) (h : Half) (w : Word) : EventUnit :=
  match h with
  | .low => { u with priority := u.priority.extractLsb' 16 8 ++ w }
  | .high => { u with priority := w.extractLsb' 0 8 ++ u.priority.extractLsb' 0 16 }

/-- EVENT_PRIORITY is written, at 12h or 13h (R140). -/
def execEventPriority (p : Port) (h : Half) (w : Word) (s : State) : Host.Outcome State Fault Refusal :=
  s.unlessPowerOn (s.updEvents p fun u => u.setPriorities h w)

/-- THRESHOLD is written: the two lowest bits (R140). -/
def execThreshold (p : Port) (w : Word) (s : State) : Host.Outcome State Fault Refusal :=
  s.unlessPowerOn (s.updEvents p fun u => { u with threshold := w.extractLsb' 0 2 })

/-! ### The interrupt line (R141) -/

/-- PxINTn is asserted: the port is ATTACHED and at least one event qualifies; inactive while PORn is asserted (R141, R152). -/
def State.interrupt (s : State) (p : Port) : Bool :=
  !s.porAsserted && s.attached p && Event.all.any fun e => (s.events.get p).qualifies e

end Sys2Proof.Machine
end

