-- ==== Sys2Proof/Machine/PortWindow.lean ====
section
/-! DEFINITION. The port window (Chapter 10): writes to COMMAND, the other window writes by offset, and what every location reads
as. -/

namespace Sys2Proof.Machine

/-! ### Writes to COMMAND (R146, R148, R149) -/

/-- The window takes the command: code and arguments latched, ISSUED, the counter one on (R146). -/
def Window.issue (w : Window) (c : Command) : Window :=
  { w with issued := some { command := c, args := w.args }, counter := w.counter + 1, command := c.code }

/-- The window answers an unknown code itself and stays READY (R149). -/
def Window.rejectCode (w : Window) (code : Byte) : Window :=
  { w with
    counter := w.counter + 1
    response := Response.unknownCommand.code
    results := {}
    lastFault := bytesWord Response.unknownCommand.code.toNat code.toNat }

/-- A write to COMMAND: COLLISION while ISSUED, an issued command for a code of the catalogue, else UNKNOWN_COMMAND (R146, R148,
R149). -/
def State.writeCommand (s : State) (p : Port) (w : Word) : State :=
  match (s.windows.get p).issued with
  | some _ => s.locationFault p .collision (commandCode w).toNat
  | none =>
    match Command.ofCode (commandCode w) with
    | some c => s.updWindow p fun x => x.issue c
    | none => ((s.updWindow p fun x => x.rejectCode (commandCode w)).raise p .fault).report p .fault

/-- COMMAND is written while READY with a code of the catalogue (R146); in any other case the write does what R148 and R149 say
(log 2). -/
def execCommandIssue (p : Port) (w : Word) (s : State) : Host.Outcome State Fault Refusal :=
  s.unlessPowerOn (s.writeCommand p w)

/-- COMMAND is written while ISSUED (R148); in any other case the write does what R146 and R149 say (log 2). -/
def execCollision (p : Port) (w : Word) (s : State) : Host.Outcome State Fault Refusal := s.unlessPowerOn (s.writeCommand p w)

/-- COMMAND is written while READY with a code that is none of the catalogue (R149); in any other case the write does what R146
and R148 say (log 2). -/
def execUnknownCommand (p : Port) (w : Word) (s : State) : Host.Outcome State Fault Refusal :=
  s.unlessPowerOn (s.writeCommand p w)

/-! ### Writes by offset (R145) -/

/-- The argument words with one replaced: offsets 01h to 06h. -/
def Words6.setArg (a : Words6) (off : Nat) (w : Word) : Words6 :=
  match off with
  | 1 => { a with w0 := w }
  | 2 => { a with w1 := w }
  | 3 => { a with w2 := w }
  | 4 => { a with w3 := w }
  | 5 => { a with w4 := w }
  | 6 => { a with w5 := w }
  | _ => a

/-- A write to an argument word is stored; a write to a read-only location or an absent offset is ignored (R145). -/
def State.writePlain (s : State) (p : Port) (off : BitVec 6) (w : Word) : State :=
  s.updWindow p fun x => { x with args := x.args.setArg off.toNat w }

/-- A write at any offset of the window: the locations with write behaviour of their own, else the plain write (10.1, R145). -/
def State.busWrite (s : State) (p : Port) (off : BitVec 6) (w : Word) : Host.Outcome State Fault Refusal :=
  match off.toNat with
  | 0x00 => s.unlessPowerOn (s.writeCommand p w)
  | 0x10 => execEventPending p w s
  | 0x11 => execEventEnable p w s
  | 0x12 => execEventPriority p .low w s
  | 0x13 => execEventPriority p .high w s
  | 0x14 => execThreshold p w s
  | 0x20 => s.fillData p w
  | 0x21 => s.unlessPowerOn (s.fillPointer p w)
  | 0x25 => s.unlessPowerOn (s.readPointer p w)
  | _ => s.unlessPowerOn (s.writePlain p off w)

/-- A location without write behaviour of its own is written (R145); any other offset is written as its own rule says (log 2). -/
def execRegisterWrite (p : Port) (off : BitVec 6) (w : Word) (s : State) : Host.Outcome State Fault Refusal := s.busWrite p off w

/-! ### Reads (R145, R142, R143) -/

/-- STATUS, assembled at each read (10.1, R145). Positions 13 to 15, of which 10.1 says nothing, read 0: DESIGN CHOICE, log 27. -/
def State.statusWord (s : State) (p : Port) : Word :=
  let w := s.windows.get p
  let r := s.ports.get p
  toWord (w.issued.isSome.toNat + 2 * r.state.code +
    8 * (match r.level? with
      | some l => l.code
      | none => 3) +
    32 * w.cause.code + 256 * w.counter.toNat + 4096 * (decide (s.device.state = .run)).toNat)

/-- A NEW flag of the port is set on some channel (R143). -/
def State.anyNew (s : State) (p : Port) : Bool := (indices 32).any fun ch => s.hasNews p ch

/-- SUMMARY, computed at each read (R143, 10.1). Positions 13 to 15, of which 10.1 says nothing, read 0: DESIGN CHOICE, log 27. -/
def State.summaryWord (s : State) (p : Port) : Word :=
  toWord ((s.queues.get p).length + 128 * (s.holds.get p).isSome.toNat + 256 * (s.reservations.get p).isSome.toNat +
    512 * (s.completions.get p).length + 4096 * (s.anyNew p).toNat)

/-- The read pointer: that of the hold, 0 while it is empty (R70, R77). -/
def State.readPointerOf (s : State) (p : Port) : Nat :=
  match s.holds.get p with
  | some h => h.pointer
  | none => 0

/-- The word a read of READ_DATA returns (R76). -/
def State.payloadWord (s : State) (p : Port) : Word :=
  match s.readable p with
  | some h => s.heldWord h
  | none => 0

/-- The word a read at an offset returns: 0 at an absent offset or a write-only location, and everywhere while PORn is asserted
(10.1, R145, R152). The high byte of RESPONSE, of which 10.1 says nothing, reads 0: DESIGN CHOICE, log 27. The effects of reading
READ_DATA and TICK_COUNT are those of their rows. -/
def State.readWindow (s : State) (p : Port) (off : BitVec 6) : Word :=
  let w := s.windows.get p
  let u := s.events.get p
  if s.porAsserted then 0
  else
    match off.toNat with
    | 0x00 => w.command.setWidth 16
    | 0x01 => w.args.w0
    | 0x02 => w.args.w1
    | 0x03 => w.args.w2
    | 0x04 => w.args.w3
    | 0x05 => w.args.w4
    | 0x06 => w.args.w5
    | 0x08 => s.statusWord p
    | 0x09 => w.response.setWidth 16
    | 0x0A => w.results.w0
    | 0x0B => w.results.w1
    | 0x0C => w.results.w2
    | 0x0D => w.results.w3
    | 0x0E => w.results.w4
    | 0x0F => w.results.w5
    | 0x10 => u.pending.setWidth 16
    | 0x11 => u.enable.setWidth 16
    | 0x12 => u.priority.extractLsb' 0 16
    | 0x13 => (u.priority.extractLsb' 16 8).setWidth 16
    | 0x14 => u.threshold.setWidth 16
    | 0x15 => u.topCause
    | 0x16 => s.summaryWord p
    | 0x17 => w.lastFault
    | 0x18 => lowWord s.time.ticks
    | 0x19 => w.capture
    | 0x21 => toWord w.fillPointer
    | 0x24 => s.payloadWord p
    | 0x25 => toWord (s.readPointerOf p)
    | _ => 0

end Sys2Proof.Machine
end

