-- ==== Sys2Proof/Machine/Dispatch.lean ====
section
/-! DEFINITION. `exec`: one arm for each constructor of `Instr`. -/

namespace Sys2Proof.Machine

/-- The effect of one command or event on everything but the queue. -/
def exec (i : Instr) (s : State) : Host.Outcome State Fault Refusal :=
  match i with
  | .attach p => Sys2Proof.Machine.execAttach p s
  | .detach p => Sys2Proof.Machine.execDetach p s
  | .queryPort p => Sys2Proof.Machine.execQueryPort p s
  | .voteReset p => Sys2Proof.Machine.execVoteReset p s
  | .withdrawVote p => Sys2Proof.Machine.execWithdrawVote p s
  | .start p => Sys2Proof.Machine.execStart p s
  | .setGeometry p => Sys2Proof.Machine.execSetGeometry p s
  | .setTimebase p => Sys2Proof.Machine.execSetTimebase p s
  | .setQuorum p => Sys2Proof.Machine.execSetQuorum p s
  | .setWatermark p => Sys2Proof.Machine.execSetWatermark p s
  | .queryDevice p => Sys2Proof.Machine.execQueryDevice p s
  | .reserve p => Sys2Proof.Machine.execReserve p s
  | .abandon p => Sys2Proof.Machine.execAbandon p s
  | .publish p => Sys2Proof.Machine.execPublish p s
  | .collect p => Sys2Proof.Machine.execCollect p s
  | .take p => Sys2Proof.Machine.execTake p s
  | .done p => Sys2Proof.Machine.execDone p s
  | .discard p => Sys2Proof.Machine.execDiscard p s
  | .readState p => Sys2Proof.Machine.execReadState p s
  | .queryQueue p => Sys2Proof.Machine.execQueryQueue p s
  | .acquire p => Sys2Proof.Machine.execAcquire p s
  | .release p => Sys2Proof.Machine.execRelease p s
  | .renew p => Sys2Proof.Machine.execRenew p s
  | .cancelWait p => Sys2Proof.Machine.execCancelWait p s
  | .queryLock p => Sys2Proof.Machine.execQueryLock p s
  | .defineChannel p => Sys2Proof.Machine.execDefineChannel p s
  | .setChannel p => Sys2Proof.Machine.execSetChannel p s
  | .subscribe p => Sys2Proof.Machine.execSubscribe p s
  | .unsubscribe p => Sys2Proof.Machine.execUnsubscribe p s
  | .suspend p => Sys2Proof.Machine.execSuspend p s
  | .resume p => Sys2Proof.Machine.execResume p s
  | .close p => Sys2Proof.Machine.execClose p s
  | .freezeChannel p => Sys2Proof.Machine.execFreezeChannel p s
  | .setLease p => Sys2Proof.Machine.execSetLease p s
  | .freezeLock p => Sys2Proof.Machine.execFreezeLock p s
  | .queryChannel p => Sys2Proof.Machine.execQueryChannel p s
  | .querySubscription p => Sys2Proof.Machine.execQuerySubscription p s
  | .collision p w => Sys2Proof.Machine.execCollision p w s
  | .unknownCommand p w => Sys2Proof.Machine.execUnknownCommand p w s
  | .fillData p w => Sys2Proof.Machine.execFillData p w s
  | .fillPointer p w => Sys2Proof.Machine.execFillPointer p w s
  | .readData p => Sys2Proof.Machine.execReadData p s
  | .readPointer p w => Sys2Proof.Machine.execReadPointer p w s
  | .eventPending p w => Sys2Proof.Machine.execEventPending p w s
  | .eventEnable p w => Sys2Proof.Machine.execEventEnable p w s
  | .eventPriority p h w => Sys2Proof.Machine.execEventPriority p h w s
  | .threshold p w => Sys2Proof.Machine.execThreshold p w s
  | .tickCount p h => Sys2Proof.Machine.execTickCount p h s
  | .registerWrite p off w => Sys2Proof.Machine.execRegisterWrite p off w s
  | .powerOnReset => Sys2Proof.Machine.execPowerOnReset s
  | .pornRelease => Sys2Proof.Machine.execPornRelease s
  | .portReset p => Sys2Proof.Machine.execPortReset p s
  | .baseTick => Sys2Proof.Machine.execBaseTick s
  | .lifetimeExpiry n => Sys2Proof.Machine.execLifetimeExpiry n s
  | .leaseExpiry l => Sys2Proof.Machine.execLeaseExpiry l s
  | .coolDownExpiry p => Sys2Proof.Machine.execCoolDownExpiry p s
  | .authorizationExpiry => Sys2Proof.Machine.execAuthorizationExpiry s
  | .faultScoreReport p k => Sys2Proof.Machine.execFaultScoreReport p k s
  | .fanOutStart => Sys2Proof.Machine.execFanOutStart s
  | .placementEvent => Sys2Proof.Machine.execPlacementEvent s
  | .fanOutEnd => Sys2Proof.Machine.execFanOutEnd s
  | .commandIssue p w => Sys2Proof.Machine.execCommandIssue p w s
  | .refclkCycle => Sys2Proof.Machine.execRefclkCycle s

end Sys2Proof.Machine
end

