-- ==== Sys2Proof/Safety.lean ====
section
/-! DEFINITION. What the statements are said in: the order of checks of every command as the rules table it, what posting an
answer leaves, and the invariants that every step keeps. Nothing here is run by the machine. -/

namespace Sys2Proof

/-- The row of spec/opcode_table.json in which the owning block takes command `c` from port `p`. -/
def Command.row (c : Command) (p : Port) : Instr :=
  match c with
  | .attach => .attach p
  | .detach => .detach p
  | .queryPort => .queryPort p
  | .voteReset => .voteReset p
  | .withdrawVote => .withdrawVote p
  | .start => .start p
  | .setGeometry => .setGeometry p
  | .setTimebase => .setTimebase p
  | .setQuorum => .setQuorum p
  | .setWatermark => .setWatermark p
  | .queryDevice => .queryDevice p
  | .reserve => .reserve p
  | .abandon => .abandon p
  | .publish => .publish p
  | .collect => .collect p
  | .take => .take p
  | .done => .done p
  | .discard => .discard p
  | .readState => .readState p
  | .queryQueue => .queryQueue p
  | .acquire => .acquire p
  | .release => .release p
  | .renew => .renew p
  | .cancelWait => .cancelWait p
  | .queryLock => .queryLock p
  | .defineChannel => .defineChannel p
  | .setChannel => .setChannel p
  | .subscribe => .subscribe p
  | .unsubscribe => .unsubscribe p
  | .suspend => .suspend p
  | .resume => .resume p
  | .close => .close p
  | .freezeChannel => .freezeChannel p
  | .setLease => .setLease p
  | .freezeLock => .freezeLock p
  | .queryChannel => .queryChannel p
  | .querySubscription => .querySubscription p

end Sys2Proof

namespace Sys2Proof.Machine

/-! ### Answers (R147, R150, 10.6) -/

/-- The class of a response, read off the ranges of 10.6: below 10h success, below 20h refusal, from 20h fault. -/
def Response.classOf (r : Response) : ReportKind :=
  if r.code.toNat < 0x10 then .success else if r.code.toNat < 0x20 then .refusal else .fault

/-- The window of port `p` shows the answer of command `c`: RESPONSE and RESULT0 to RESULT5 written, READY; on a fault LAST_FAULT
holds the fault code and the command's code, and FAULT is pending (R147, R150). Nothing is reported. -/
def State.shown (s : State) (p : Port) (c : Command) (r : Response) (results : Words6 := {}) : State :=
  { s with
    windows := s.windows.set p
      { s.windows.get p with
        issued := none
        response := r.code
        results := results
        lastFault := if r.classOf = .fault then c.code ++ r.code else (s.windows.get p).lastFault }
    events :=
      if r.classOf = .fault then
        s.events.set p { s.events.get p with pending := (s.events.get p).pending ||| 1#12 }
      else s.events }

/-- A report of class `k` waits for the port context unit if the port is ATTACHED; the score of any other port is not changed
(R128, R125; logs 4 and 26). -/
def State.reported (s : State) (p : Port) (k : ReportKind) : List Report :=
  if s.attached p = true then s.reports ++ [{ port := p, kind := k }] else s.reports

/-- The answer shown, and its class reported to the port context unit (R147, R128). -/
def State.posted (s : State) (p : Port) (c : Command) (r : Response) (results : Words6 := {}) : State :=
  { s.shown p c r results with reports := s.reported p r.classOf }

/-- Command `c` with arguments `a` is ISSUED in the window of port `p`, and PORn is released (R146, R152). -/
def State.issues (s : State) (p : Port) (c : Command) (a : Words6) : Prop :=
  s.porAsserted = false ∧ (s.windows.get p).issued = some { command := c, args := a }

/-- A fault at a window location, or COLLISION: LAST_FAULT holds the code and the origin, FAULT is pending, the fault is reported;
RESPONSE and RESULT stay (R11, R12, R77, R148, R150). -/
def State.locationFaulted (s : State) (p : Port) (r : Response) (origin : Byte) : State :=
  { s with
    windows := s.windows.set p { s.windows.get p with lastFault := origin ++ r.code }
    events := s.events.set p { s.events.get p with pending := (s.events.get p).pending ||| 1#12 }
    reports := s.reported p .fault }

/-! ### Reading the state by number -/

/-- The definition of channel `n`, none when it is UNUSED or no channel. -/
def State.channelAt (s : State) (n : Nat) : Option ChannelDef := if h : n < 32 then (s.channels.get ⟨n, h⟩).defn else none

/-- Channel `n` is frozen (R39). -/
def State.frozenAt (s : State) (n : Nat) : Bool := if h : n < 32 then (s.channels.get ⟨n, h⟩).frozen else false

/-- The subscription record of port number `q` on channel `n` (R24). -/
def State.subAt (s : State) (n q : Nat) : Option Subscription :=
  match Port.ofIndex? q, s.channelAt n with
  | some p, some d => d.subs.get p
  | _, _ => none

/-- Port `p` is in the publisher set of channel `n` (R22). -/
def State.mayPublishOn (s : State) (p : Port) (n : Nat) : Bool := (s.channelAt n).any fun d => d.publishers.getLsbD p.index

/-- The record of lock `n`. -/
def State.lockAt (s : State) (n : Nat) : Option Lock := if h : n < 16 then some (s.locks.get ⟨n, h⟩) else none

/-- The grant of lock `n`, none while it is FREE (R96). -/
def State.grantAt (s : State) (n : Nat) : Option Grant := (s.lockAt n).bind fun k => k.grant

/-- The holder of lock `n` (R96). -/
def State.holderAt (s : State) (n : Nat) : Option Port := (s.grantAt n).map fun g => g.holder

/-- The current grant number of lock `n` (R96). -/
def State.numberAt (s : State) (n : Nat) : Option (BitVec 32) := (s.grantAt n).map fun g => g.number

/-- The channel of the FILLING slot that the port's reservation record names (R10). -/
def State.reservedChannel (s : State) (p : Port) : Option ChannelId :=
  (s.reservations.get p).bind fun i =>
    match (s.slots.get i).use with
    | .filling ch _ => some ch
    | .free => none
    | .message _ => none

/-- ARG0 of TAKE, DISCARD, READ_STATE and QUERY_QUEUE names a channel or ANY (4.3). -/
def selects (w : Word) (e : Entry) : Bool := decide (w = 0xFFFF) || decide (e.channel.val = w.toNat)

/-- What READ_STATE would read: the named channel, or the lowest-numbered one with news, with its value and that slot's fields
(5.3, R88 order 8). -/
def State.valueFor (s : State) (p : Port) (w : Word) : Option (ChannelId × SlotId × Message) :=
  let chosen : Option ChannelId := if w = 0xFFFF then (indices 32).find? (s.hasNews p) else channel? w.toNat
  chosen.bind fun ch =>
    ((s.channels.get ch).defn.bind fun d => d.current).bind fun i => (s.message? i).map fun m => (ch, i, m)

/-! ### The order of checks, as the rules table it -/

/-- One line of a table of checks: a condition, and the response with its results when it holds. -/
def on (b : Bool) (r : Response) (w : Words6 := {}) : Bool × Response × Words6 := (b, r, w)

/-- "The first condition that holds decides the response." -/
def judge (checks : List (Bool × Response × Words6)) : Option (Response × Words6) := (checks.find? fun x => x.1).map fun x => x.2

/-- The port is OFFLINE, or ISOLATED (R125). -/
def State.portChecks (s : State) (p : Port) : List (Bool × Response × Words6) :=
  [on ((s.ports.get p).state = .offline) .offline, on ((s.ports.get p).state = .isolated) .isolated]

/-- The device is not in RUN; then the port (R8, R45, R72, R74, R75, R60, R88). -/
def State.runChecks (s : State) (p : Port) : List (Bool × Response × Words6) :=
  on (s.device.state = .config) .notRunning :: s.portChecks p

/-- The device is in RUN; then the port (R2, R18, R116, R153, R154). -/
def State.settingChecks (s : State) (p : Port) : List (Bool × Response × Words6) :=
  on (s.device.state = .run) .wrongState :: s.portChecks p

/-- Checks 1 to 3 of R27. -/
def State.authorityChecks (s : State) (p : Port) (a : Words6) : List (Bool × Response × Words6) :=
  s.portChecks p ++
    [on (s.device.state = .run ∧ s.holderAt 0 ≠ some p) .needConfigLock,
     on (s.device.state = .run ∧ s.numberAt 0 ≠ some (a.w5 ++ a.w4)) .staleGrant]

/-- RESTRICTED: a score of 128 or more (R129). -/
def State.restrictionCheck (s : State) (p : Port) : Bool × Response × Words6 := on (128 ≤ (s.ports.get p).score) .restricted

/-- UNUSED, frozen, CLOSING, in this order (R30, R31, R34). -/
def State.openChecks (s : State) (n : Nat) : List (Bool × Response × Words6) :=
  [on (s.channelAt n).isNone .noChannel, on (s.frozenAt n) .frozen,
   on ((s.channelAt n).any fun d => d.phase = .closing) .wrongState]

/-- Orders 1 to 4 of R101, but for the acceptance. -/
def State.grantChecks (s : State) (p : Port) (a : Words6) : List (Bool × Response × Words6) :=
  let n := a.w0.toNat
  let number : BitVec 32 := a.w2 ++ a.w1
  s.portChecks p ++
    [on (15 < n) .badArgument,
     on (¬(s.holderAt n = some p ∧ s.numberAt n = some number) ∧
       (s.lockAt n).any fun k => k.revoked = some { number := number, port := p }) .leaseExpired,
     on (s.holderAt n ≠ some p) .notHolder,
     on (s.numberAt n ≠ some number) .staleGrant]

/-- The checks of the commands of the slot pool: R8, R14, R2, R18. -/
def State.poolChecks (s : State) (c : Command) (p : Port) (a : Words6) : List (Bool × Response × Words6) :=
  match c with
  | .reserve => s.runChecks p ++
      [s.restrictionCheck p,
       on (s.reservations.get p).isSome .reservationHeld,
       on (31 < a.w0.toNat) .badArgument,
       on (s.channelAt a.w0.toNat).isNone .noChannel,
       on (!s.mayPublishOn p a.w0.toNat) .notPublisher,
       on ((s.ports.get p).quota ≤ (s.ports.get p).account) .quota,
       on (s.freeList = []) .poolEmpty]
  | .abandon => s.portChecks p ++ [on (s.reservations.get p).isNone .noReservation]
  | .setGeometry => s.settingChecks p ++ [on (a.w0 ≠ 32 ∧ a.w0 ≠ 64 ∧ a.w0 ≠ 128) .badArgument]
  | .setWatermark => s.settingChecks p ++ [on (s.geometry.slotCount < a.w0.toNat) .badArgument]
  | _ => []

/-- The checks of PUBLISH and COLLECT: R45, R60. -/
def State.publishChecks (s : State) (c : Command) (p : Port) (a : Words6) : List (Bool × Response × Words6) :=
  let d := (s.reservedChannel p).bind fun ch => (s.channels.get ch).defn
  match c with
  | .publish => s.runChecks p ++
      [s.restrictionCheck p,
       on (s.reservedChannel p).isNone .noReservation,
       on (d.isNone ∨ d.any fun e => e.phase = .closing) .closed,
       on (d.any fun e => e.phase = .suspended) .suspended,
       on (d.any fun e => !e.publishers.getLsbD p.index) .notPublisher,
       on (a.w0 = 0 ∨ s.geometry.slotSize < a.w0.toNat) .length,
       on ((s.ports.get p).credits = 0) .busy { w0 := 1 },
       on (8 ≤ s.publishQueue.length) .busy { w0 := 2 }]
  | .collect => s.runChecks p ++ [on (s.completions.get p = []) .empty]
  | _ => []

/-- The checks of the delivery queue's commands: R72, R74, R75, R79. -/
def State.queueChecks (s : State) (c : Command) (p : Port) (a : Words6) : List (Bool × Response × Words6) :=
  let named := decide (a.w0 ≠ 0xFFFF)
  let selection :=
    [on (named && decide (31 < a.w0.toNat)) .badArgument,
     on (named && (s.channelAt a.w0.toNat).isNone) .noChannel,
     on (named && (s.subAt a.w0.toNat p.index).isNone) .notSubscriber,
     on (!(s.queues.get p).any (selects a.w0)) .empty]
  match c with
  | .take => s.runChecks p ++ on (s.holds.get p).isSome .holdFull :: selection
  | .discard => s.runChecks p ++ selection
  | .done => s.runChecks p ++ [on (s.holds.get p).isNone .holdEmpty]
  | .queryQueue => s.portChecks p ++ [on (named && decide (31 < a.w0.toNat)) .badArgument]
  | _ => []

/-- The checks of READ_STATE: R88. -/
def State.readStateChecks (s : State) (p : Port) (a : Words6) : List (Bool × Response × Words6) :=
  let named := decide (a.w0 ≠ 0xFFFF)
  s.runChecks p ++
    [on (named && decide (31 < a.w0.toNat)) .badArgument,
     on (named && (s.channelAt a.w0.toNat).isNone) .noChannel,
     on (named && (s.subAt a.w0.toNat p.index).isNone) .notSubscriber,
     on (named && (s.channelAt a.w0.toNat).any fun d => d.kind = .stream) .wrongState,
     on (s.holds.get p).isSome .holdFull,
     on (s.valueFor p a.w0).isNone .empty]

/-- The checks of the lock commands that need no configuration authority: R99, R101, R105, R107, R108. -/
def State.lockChecks (s : State) (c : Command) (p : Port) (a : Words6) : List (Bool × Response × Words6) :=
  let n := a.w0.toNat
  let held := (s.grantAt n).isSome
  let waiting := (s.lockAt n).any fun k => p ∈ k.waiters
  match c with
  | .acquire => s.portChecks p ++
      [s.restrictionCheck p,
       on (15 < n ∨ 1 < a.w1.toNat) .badArgument,
       on (s.holderAt n = some p) .alreadyHolder,
       on (held && (s.waits.get p).isSome) .alreadyWaiting,
       on (held && decide (a.w1 = 0)) .denied { w0 := ((s.holderAt n).map fun q => BitVec.ofNat 16 q.index).getD 0 }]
  | .release | .renew => s.grantChecks p a
  | .cancelWait => s.portChecks p ++
      [on (15 < n) .badArgument,
       on (!waiting && decide (s.holderAt n = some p)) .notWaiting
         { w0 := 1
           w1 := ((s.numberAt n).map fun g => g.extractLsb' 0 16).getD 0
           w2 := ((s.numberAt n).map fun g => g.extractLsb' 16 16).getD 0 },
       on (!waiting) .notWaiting]
  | .queryLock => s.portChecks p ++ [on (15 < n) .badArgument]
  | _ => []

/-- The checks of the ten configuration commands: R27, then R29, R30, R31, R34, R35, R36, R39, R109 and R110. -/
def State.configurationChecks (s : State) (c : Command) (p : Port) (a : Words6) : List (Bool × Response × Words6) :=
  let n := a.w0.toNat
  let ch := n % 256
  let q := n / 256
  s.authorityChecks p a ++
    match c with
    | .defineChannel =>
        [on (31 < n ∨ 1 < a.w1.toNat ∨ 15 < a.w2.toNat) .badArgument, on (s.channelAt n).isSome .wrongState]
    | .setChannel => on (31 < n ∨ 15 < a.w2.toNat) .badArgument :: s.openChecks n
    | .subscribe =>
        on (31 < ch ∨ 3 < q ∨ 16 < a.w1.toNat % 256 ∨ 1 < a.w1.toNat / 256) .badArgument :: s.openChecks ch
    | .unsubscribe =>
        on (31 < ch ∨ 3 < q) .badArgument :: s.openChecks ch ++ [on (s.subAt ch q).isNone .notSubscriber]
    | .suspend =>
        [on (31 < n) .badArgument, on (s.channelAt n).isNone .noChannel,
         on ((s.channelAt n).any fun d => d.phase ≠ .active) .wrongState]
    | .resume =>
        [on (31 < n) .badArgument, on (s.channelAt n).isNone .noChannel,
         on ((s.channelAt n).any fun d => d.phase ≠ .suspended) .wrongState]
    | .close => [on (31 < n) .badArgument, on (s.channelAt n).isNone .noChannel, on (s.frozenAt n) .frozen]
    | .freezeChannel =>
        [on (31 < n) .badArgument, on (s.frozenAt n) .frozen, on (s.channelAt n).isNone .wrongState,
         on ((s.channelAt n).any fun d => d.phase = .closing) .wrongState]
    | .setLease | .freezeLock => [on (15 < n) .badArgument, on ((s.lockAt n).any fun k => k.frozen) .frozen]
    | _ => []

/-- The checks of the port context unit's, device control's and time base's commands and of the channel queries: R126, R127,
R136, R153, R154, R116, R155, R156, R40, R41. -/
def State.controlChecks (s : State) (c : Command) (p : Port) (a : Words6) : List (Bool × Response × Words6) :=
  let r := s.ports.get p
  let n := a.w0.toNat
  match c with
  | .attach =>
      [on (a.w0 = 0 ∨ a.w1 = 0 ∨ s.geometry.slotCount < a.w1.toNat) .badArgument,
       on (r.state = .isolated ∧ 0 < r.coolDown) .cooling { w0 := BitVec.ofNat 16 r.coolDown },
       on (r.state = .attached) .wrongState]
  | .detach | .voteReset | .withdrawVote => s.portChecks p
  | .queryPort => [on ((3 < n ∧ a.w0 ≠ 0xFFFF) ∨ 1 < a.w1.toNat) .badArgument]
  | .start | .setTimebase => s.settingChecks p
  | .setQuorum => s.settingChecks p ++ [on (a.w0 ≠ 2 ∧ a.w0 ≠ 3 ∧ a.w0 ≠ 4) .badArgument]
  | .queryChannel => s.portChecks p ++ [on (31 < n) .badArgument]
  | .querySubscription => s.portChecks p ++
      [on (31 < n % 256 ∨ 3 < n / 256 ∨ 1 < a.w1.toNat ∨ (a.w1 = 1 ∧ n / 256 ≠ p.index)) .badArgument]
  | _ => []

/-! ### Invariants that every step keeps -/

/-- The payload store keeps its canonical form and its 8192 bytes (R1; log 17). -/
structure State.PayloadCanonical (s : State) : Prop where
  canonical : Memory.wf s.payload
  bounded : ∀ c ∈ s.payload, c.1 < 8192

/-- Settings and counters keep to the ranges the rules give them (R115, R154, R157, R17, R124, R133). -/
structure State.InRange (s : State) : Prop where
  prescale : 1 ≤ s.time.prescale ∧ s.time.prescale ≤ 65536
  count : s.time.count < s.time.prescale
  quorum : s.device.quorum = 2 ∨ s.device.quorum = 3 ∨ s.device.quorum = 4
  authorization : s.device.authorization < 4096
  authorizationInConfig : s.device.state = .config → s.device.authorization = 0
  watermark : s.watermark ≤ s.geometry.slotCount
  score : ∀ p, (s.ports.get p).score ≤ 255
  coolDown : ∀ p, (s.ports.get p).coolDown ≤ 2048
  coolDownOnlyIsolated : ∀ p, (s.ports.get p).state ≠ .isolated → (s.ports.get p).coolDown = 0
  quota : ∀ p, (s.ports.get p).quota ≤ 256

/-- What R96 and R97 say of lock and wait records, and that every holding and every place belongs to an ATTACHED port (R112). -/
structure State.LocksInOrder (s : State) : Prop where
  freeHasNoWaiters : ∀ l, (s.locks.get l).grant = none → (s.locks.get l).waiters = []
  noneTwice : ∀ l, (s.locks.get l).waiters.Nodup
  neverItsHolder : ∀ l g, (s.locks.get l).grant = some g → g.holder ∉ (s.locks.get l).waiters
  numberIsLastIssued : ∀ l g, (s.locks.get l).grant = some g → g.number = (s.locks.get l).lastIssued
  waitRecord : ∀ l p, p ∈ (s.locks.get l).waiters ↔ s.waits.get p = some l
  holderAttached : ∀ l g, (s.locks.get l).grant = some g → (s.ports.get g.holder).state = .attached
  waiterAttached : ∀ p l, s.waits.get p = some l → (s.ports.get p).state = .attached

/-- Requests of port `p` that are not orphaned, in the publish queue and in fan-out, with its completion records: the credits in
use (R49). -/
def State.creditsInUse (s : State) (p : Port) : Nat :=
  (s.publishQueue.countP fun r => decide (r.publisher = p) && !r.orphaned) +
    (s.engine.any fun f => decide (f.request.publisher = p) && !f.request.orphaned).toNat + (s.completions.get p).length

/-- No port has more credits free and in use than its 4 (R49). -/
def State.CreditsBounded (s : State) : Prop := ∀ p, (s.ports.get p).credits + s.creditsInUse p ≤ 4

/-- "Every reservation, delivery entry, read-hold message, ... and cast vote in the part belongs to an ATTACHED port", and so
does every set NEW flag, every request that is not orphaned and every report (R132, R80, R95, R62, R156, R128). -/
structure State.AbsentHoldNothing (s : State) : Prop where
  reservation : ∀ p, (s.ports.get p).state ≠ .attached → s.reservations.get p = none
  queue : ∀ p, (s.ports.get p).state ≠ .attached → s.queues.get p = []
  hold : ∀ p, (s.ports.get p).state ≠ .attached → s.holds.get p = none
  vote : ∀ p, (s.ports.get p).state ≠ .attached → (s.ports.get p).vote = false
  news : ∀ p ch d b, (s.ports.get p).state ≠ .attached →
    (s.channels.get ch).defn = some d → d.subs.get p = some b → b.new = false
  completions : ∀ p, (s.ports.get p).state ≠ .attached → s.completions.get p = []
  waiting : ∀ r ∈ s.publishQueue, (s.ports.get r.publisher).state ≠ .attached → r.orphaned = true
  spreading : ∀ f, s.engine = some f → (s.ports.get f.request.publisher).state ≠ .attached → f.request.orphaned = true
  report : ∀ r ∈ s.reports, (s.ports.get r.port).state = .attached

/-- The limits R68 and R50 put on the queues: 64 entries in all, the depth for each channel subscribed to, none for a channel not
subscribed to nor for a STATE channel; 8 requests. -/
structure State.QueuesWithinLimits (s : State) : Prop where
  total : ∀ p, (s.queues.get p).length ≤ 64
  depth : ∀ p ch b, s.sub? ch p = some b → s.entriesOf p ch ≤ b.depth
  subscribed : ∀ p ch, s.sub? ch p = none → s.entriesOf p ch = 0
  stream : ∀ p ch d, s.defn? ch = some d → d.kind = .state → s.entriesOf p ch = 0
  requests : s.publishQueue.length ≤ 8

/-- Every slot index the part holds is below N, every length at most S, every pointer even and within the slot; and in CONFIG
there is no traffic (R1, R3, R12, R70, R152). -/
structure State.WithinGeometry (s : State) : Prop where
  free : ∀ i ∈ s.freeList, i.val < s.geometry.slotCount
  reservation : ∀ p i, s.reservations.get p = some i → i.val < s.geometry.slotCount
  message : ∀ i m, s.message? i = some m → i.val < s.geometry.slotCount ∧ m.length ≤ s.geometry.slotSize
  request : ∀ r ∈ s.publishQueue, r.slot.val < s.geometry.slotCount
  spreading : ∀ f, s.engine = some f → f.request.slot.val < s.geometry.slotCount
  entry : ∀ p, ∀ e ∈ s.queues.get p, e.slot.val < s.geometry.slotCount ∧ e.length ≤ s.geometry.slotSize
  held : ∀ p h, s.holds.get p = some h → h.entry.slot.val < s.geometry.slotCount ∧ h.entry.length ≤ s.geometry.slotSize
  readPointer : ∀ p h, s.holds.get p = some h → h.pointer % 2 = 0 ∧ h.pointer ≤ s.geometry.slotSize
  current : ∀ ch d i, (s.channels.get ch).defn = some d → d.current = some i → i.val < s.geometry.slotCount
  fillPointer : ∀ p, (s.windows.get p).fillPointer % 2 = 0 ∧ (s.windows.get p).fillPointer ≤ s.geometry.slotSize
  fillPointerIdle : ∀ p, s.reservations.get p = none → (s.windows.get p).fillPointer = 0
  configReservation : s.device.state = .config → ∀ p, s.reservations.get p = none
  configMessage : s.device.state = .config → ∀ i, s.message? i = none
  configRequest : s.device.state = .config → s.publishQueue = []
  configEngine : s.device.state = .config → s.engine = none
  configQueue : s.device.state = .config → ∀ p, s.queues.get p = []
  configHold : s.device.state = .config → ∀ p, s.holds.get p = none
  configCurrent : s.device.state = .config → ∀ ch d, (s.channels.get ch).defn = some d → d.current = none

/-- The holders of slot `i` (R4): reservations, requests in the publish queue, the engine's request, delivery entries, read holds
and current values that name it. -/
def State.holders (s : State) (i : SlotId) : Nat :=
  (Port.all.countP fun p => decide (s.reservations.get p = some i)) +
  (s.publishQueue.countP fun r => decide (r.slot = i)) +
  (s.engine.any fun f => decide (f.request.slot = i)).toNat +
  ((Port.all.map fun p => (s.queues.get p).countP fun e => decide (e.slot = i)).sum) +
  (Port.all.countP fun p => (s.holds.get p).any fun h => decide (h.entry.slot = i)) +
  ((indices 32).countP fun ch => ((s.channels.get ch).defn.bind fun d => d.current) = some i)

/-- A message of the slot in the phase given. -/
def State.inPhase (s : State) (i : SlotId) (f : MessagePhase → Bool) : Prop := ∃ m, s.message? i = some m ∧ f m.phase = true

/-- The slot pool as R4, R7 and R15 describe it, with what R10, R50, R51, R69, R71 and R84 say of the states of held slots. -/
structure State.PoolSound (s : State) : Prop where
  counted : ∀ i, (s.slots.get i).refs = s.holders i
  freeIsZero : ∀ i, (s.slots.get i).use = .free ↔ (s.slots.get i).refs = 0
  freeListOnce : s.freeList.Nodup
  freeListed : ∀ i : SlotId, i ∈ s.freeList ↔ i.val < s.geometry.slotCount ∧ (s.slots.get i).use = .free
  account : ∀ p, (s.ports.get p).account = (indices 256).countP fun i => decide ((s.slots.get i).use.account? = some p)
  filling : ∀ p i, s.reservations.get p = some i ↔ ∃ ch, (s.slots.get i).use = .filling ch p
  pending : ∀ r ∈ s.publishQueue, s.inPhase r.slot fun x => decide (x = .pending)
  pendingQueued : ∀ i, (s.inPhase i fun x => decide (x = .pending)) → ∃ r ∈ s.publishQueue, r.slot = i
  onceQueued : (s.publishQueue.map fun r => r.slot).Nodup
  spreading : ∀ f, s.engine = some f →
    (s.inPhase f.request.slot fun x => decide (x = .spreading)) ∨
      ((s.inPhase f.request.slot fun x => decide (x = .expired)) ∧ f.expired = true ∧ f.cursor = .finish)
  spreadingNamed : ∀ i, (s.inPhase i fun x => decide (x = .spreading)) → ∃ f, s.engine = some f ∧ f.request.slot = i
  entry : ∀ p, ∀ e ∈ s.queues.get p, s.inPhase e.slot fun x => decide (x = .spreading) || decide (x = .live)
  hold : ∀ p h, s.holds.get p = some h →
    s.inPhase h.entry.slot fun x => decide (x = .spreading) || decide (x = .live) || decide (x = .expired)
  current : ∀ ch d i, (s.channels.get ch).defn = some d → d.current = some i →
    (s.inPhase i fun x => decide (x = .spreading) || decide (x = .live)) ∧ ∃ m, s.message? i = some m ∧ m.channel = ch

end Sys2Proof.Machine
end

