-- ==== Sys2Proof/WellFormed.lean ====
section
/-! DEFINITION. Which operands a row of spec/opcode_table.json admits, where the operand's type does not already say it. -/

namespace Sys2Proof

/-- The offsets REGISTER_WRITE is about (R145): the argument words 01h to 06h, the read-only locations 08h to 0Fh, 15h to 19h
and 24h, and the offsets absent from the table of 10.1. The others have a write behaviour of their own. -/
def plainOffset (off : BitVec 6) : Bool :=
  !([0x00, 0x10, 0x11, 0x12, 0x13, 0x14, 0x20, 0x21, 0x25].contains off)

/-- The operands the row admits: COMMAND_ISSUE takes a code of the catalogue (R146), UNKNOWN_COMMAND a code that is none
(R149), REGISTER_WRITE a location without write behaviour of its own (R145). -/
def Instr.wellFormed : Instr → Bool
  | .commandIssue _ w => (Command.ofCode (commandCode w)).isSome
  | .unknownCommand _ w => (Command.ofCode (commandCode w)).isNone
  | .registerWrite _ off _ => plainOffset off
  | .attach _ | .detach _ | .queryPort _ | .voteReset _ | .withdrawVote _ | .start _ | .setGeometry _ | .setTimebase _ => true
  | .setQuorum _ | .setWatermark _ | .queryDevice _ | .reserve _ | .abandon _ | .publish _ | .collect _ => true
  | .take _ | .done _ | .discard _ | .readState _ | .queryQueue _ => true
  | .acquire _ | .release _ | .renew _ | .cancelWait _ | .queryLock _ => true
  | .defineChannel _ | .setChannel _ | .subscribe _ | .unsubscribe _ | .suspend _ | .resume _ | .close _ => true
  | .freezeChannel _ | .setLease _ | .freezeLock _ | .queryChannel _ | .querySubscription _ => true
  | .collision _ _ | .fillData _ _ | .fillPointer _ _ | .readData _ | .readPointer _ _ => true
  | .eventPending _ _ | .eventEnable _ _ | .eventPriority _ _ _ | .threshold _ _ | .tickCount _ _ => true
  | .powerOnReset | .pornRelease | .portReset _ | .baseTick | .lifetimeExpiry _ | .leaseExpiry _ | .coolDownExpiry _ => true
  | .authorizationExpiry | .faultScoreReport _ _ | .fanOutStart | .placementEvent | .fanOutEnd | .refclkCycle => true

end Sys2Proof
end

