-- ==== Sys2Proof/Certificates/Slice0/Obligations.lean ====
section
/-! DEFINITION. The statements for the provers. Where a statement rests on a choice of the model rather than on a rule of the
spec, its docstring names the log entry. -/

open Sys2Proof Sys2Proof.Machine

/-! ### Steps and the queue -/

/-- A step takes the command at the front of the queue, with the queue's rest; on an empty queue the block idles (the model's
choice, log 10). -/
def Obligations.StepTakesTheFrontOfTheQueue : Prop :=
  (∀ (s : State) (c : Instr) (rest : List Instr), s.pending = c :: rest → step s = exec c { s with pending := rest }) ∧
  (∀ s : State, s.pending = [] → step s = .next s)

/-- No command or event touches the queue, none is refused by the model, and only FILL_DATA and READ_DATA can stop the model
(log 17). -/
def Obligations.CommandsLeaveTheQueueAndAreNeverRefused : Prop :=
  ∀ (i : Instr) (s : State),
    (∀ t, exec i s = .next t → t.pending = s.pending) ∧
    (∀ r, exec i s ≠ .refused r) ∧
    (∀ e, exec i s = .fault e →
      (∃ p w, i = .fillData p w) ∨ (∃ p w, i = .registerWrite p 0x20 w) ∨ ∃ p, i = .readData p)

/-! ### Power-on and PORn -/

/-- R19: what power-on reset makes of the slot pool, whatever it held. -/
def Obligations.PowerOnResetSetsTheSlotPool : Prop :=
  ∀ s : State, ∃ t, exec .powerOnReset s = .next t ∧
    t.geometry = .g64 ∧ t.geometry.slotCount = 128 ∧ t.geometry.slotSize = 64 ∧
    (∀ i, t.slots.get i = { use := .free, refs := 0 }) ∧
    t.freeList.map (fun i => i.val) = List.range 128 ∧
    (∀ x, Memory.read t.payload x = 0) ∧
    t.watermark = 8 ∧
    ∀ p, (t.ports.get p).account = 0 ∧ t.reservations.get p = none ∧ (t.windows.get p).fillPointer = 0

/-- R42 and R113, and the power-on values of the other blocks (R67, R83, R123, R137, R144, R145, R152). What waits in the queue
stays (log 10); the word on the data pins is the model's choice (log 12) and is not spoken of. -/
def Obligations.PowerOnResetSetsTheOtherBlocks : Prop :=
  ∀ s : State, ∃ t, exec .powerOnReset s = .next t ∧
    (∀ ch, (t.channels.get ch).defn = none ∧ (t.channels.get ch).seq = 0 ∧ (t.channels.get ch).frozen = false ∧
      (t.channels.get ch).results = {}) ∧
    (∀ l, t.locks.get l =
      { grant := none, lastIssued := 0, leaseSetting := 0, waiters := [], revoked := none, frozen := false }) ∧
    (∀ p, t.waits.get p = none) ∧
    t.publishQueue = [] ∧ t.engine = none ∧ (∀ p, t.completions.get p = []) ∧
    (∀ p, t.queues.get p = [] ∧ t.holds.get p = none) ∧
    t.time = { prescale := 25000, count := 0, ticks := 0 } ∧
    (∀ p, t.ports.get p =
      { state := .offline, identity := 0, quota := 0, account := 0, score := 0, coolDown := 0, vote := false, credits := 4 }) ∧
    (∀ p, t.events.get p = { pending := 0, enable := 0, priority := 0, threshold := 0 }) ∧
    (∀ p, let w := t.windows.get p
      w.issued = none ∧ w.args = {} ∧ w.command = 0 ∧ w.response = 0 ∧ w.results = {} ∧ w.counter = 0 ∧ w.lastFault = 0 ∧
      w.cause = .powerOn ∧ w.capture = 0) ∧
    t.device = { state := .config, quorum := 3, authorization := 0 } ∧
    t.reports = [] ∧ t.due = Due.none ∧ t.porAsserted = true ∧ t.pending = s.pending

/-- While PORn is asserted reads return 0, writes are ignored, every interrupt line is inactive, port resets have no effect and no
tick is emitted; its release changes nothing else (R152; log 14). -/
def Obligations.AssertedPornSuspendsThePart : Prop :=
  ∀ s : State,
    exec .pornRelease s = .next { s with porAsserted := false } ∧
    (s.porAsserted = true →
      (∀ p off, s.readWindow p off = 0 ∧ s.interrupt p = false) ∧
      (∀ p, exec (.readData p) s = .next { s with windows := s.windows.set p { s.windows.get p with readData := 0 } }) ∧
      (∀ p h, exec (.tickCount p h) s = .next { s with windows := s.windows.set p { s.windows.get p with readData := 0 } }) ∧
      ∀ i, i ≠ .powerOnReset → i ≠ .pornRelease → (∀ p, i ≠ .readData p) → (∀ p h, i ≠ .tickCount p h) →
        exec i s = .next s)

/-- R20, R43, R114 and, for the other blocks, R66, R82, R95, R123, R137, R144, R151, R158: what a device reset leaves. -/
def Obligations.DeviceResetKeepsConfigurationOnly : Prop :=
  ∀ s : State, let t := s.deviceReset
    (t.geometry = s.geometry ∧ t.watermark = s.watermark ∧ (∀ i, t.slots.get i = { use := .free, refs := 0 }) ∧
      t.freeList.map (fun i => i.val) = List.range s.geometry.slotCount ∧
      ∀ p, (t.ports.get p).account = 0 ∧ t.reservations.get p = none ∧ (t.windows.get p).fillPointer = 0) ∧
    (∀ ch, (t.channels.get ch).seq = (s.channels.get ch).seq ∧ (t.channels.get ch).frozen = (s.channels.get ch).frozen ∧
      (t.channels.get ch).defn =
        match (s.channels.get ch).defn with
        | none => none
        | some d =>
          if d.phase = .closing then none
          else some { d with
            current := none
            subs := d.subs.map fun b => b.map fun b => { b with lost := 0, expired := 0, superseded := 0, new := false } }) ∧
    (∀ l, t.locks.get l = { s.locks.get l with grant := none, waiters := [], revoked := none }) ∧
    (∀ p, t.waits.get p = none) ∧
    t.publishQueue = [] ∧ t.engine = none ∧ (∀ p, t.completions.get p = []) ∧
    (∀ p, t.queues.get p = [] ∧ t.holds.get p = none) ∧
    t.time = { prescale := s.time.prescale, count := 0, ticks := 0 } ∧
    (∀ p, t.ports.get p =
      { state := .offline, identity := 0, quota := 0, account := 0, score := 0, coolDown := 0, vote := false, credits := 4 }) ∧
    (∀ p, t.events.get p = { pending := 0, enable := 0, priority := 0, threshold := 0 }) ∧
    (∀ p, let w := s.windows.get p
      t.windows.get p =
        { w with
          issued := none
          response := if w.issued.isSome then 0x1E else w.response
          results := if w.issued.isSome then {} else w.results
          counter := 0, lastFault := 0, cause := .deviceReset, capture := 0, fillPointer := 0 }) ∧
    t.device = { s.device with authorization := 0 }

/-! ### Checks, in the order the rules give them -/

/-- R8 and R45 (with the checks of R14, R2, R18 and R60): the first condition that holds decides the response, and the command
changes nothing else. -/
def Obligations.PoolAndPublishChecksInOrder : Prop :=
  ∀ (s : State) (p : Port) (a : Words6) (r : Response) (w : Words6),
    (∀ c ∈ [Command.reserve, .abandon, .setGeometry, .setWatermark], s.issues p c a →
      judge (s.poolChecks c p a) = some (r, w) → exec (c.row p) s = .next (s.posted p c r w)) ∧
    (∀ c ∈ [Command.publish, .collect], s.issues p c a →
      judge (s.publishChecks c p a) = some (r, w) → exec (c.row p) s = .next (s.posted p c r w))

/-- R88, and the checks of R72, R74, R75 and R79. -/
def Obligations.DeliveryAndStateChecksInOrder : Prop :=
  ∀ (s : State) (p : Port) (a : Words6) (r : Response) (w : Words6),
    (∀ c ∈ [Command.take, .discard, .done, .queryQueue], s.issues p c a →
      judge (s.queueChecks c p a) = some (r, w) → exec (c.row p) s = .next (s.posted p c r w)) ∧
    (s.issues p .readState a → judge (s.readStateChecks p a) = some (r, w) →
      exec (.readState p) s = .next (s.posted p .readState r w))

/-- The checks of R99, R101, R105, R107 and R108. -/
def Obligations.LockChecksInOrder : Prop :=
  ∀ (s : State) (p : Port) (a : Words6) (r : Response) (w : Words6),
    ∀ c ∈ [Command.acquire, .release, .renew, .cancelWait, .queryLock], s.issues p c a →
      judge (s.lockChecks c p a) = some (r, w) → exec (c.row p) s = .next (s.posted p c r w)

/-- R27 for the ten configuration commands, each with the checks of its own rule behind it (R29, R30, R31, R34, R35, R36, R39,
R109, R110). That a publisher set above the fourth position is out of range for SET_CHANNEL too is DEDUCED (log 15). -/
def Obligations.ConfigurationChecksInOrder : Prop :=
  ∀ (s : State) (p : Port) (a : Words6) (r : Response) (w : Words6),
    ∀ c ∈ [Command.defineChannel, .setChannel, .subscribe, .unsubscribe, .suspend, .resume, .close, .freezeChannel, .setLease,
      .freezeLock], s.issues p c a →
      judge (s.configurationChecks c p a) = some (r, w) → exec (c.row p) s = .next (s.posted p c r w)

/-- The checks of R126, R127, R136, R153, R116, R154, R156, R40 and R41. That ATTACH and DETACH turned away are reported through
the list of reports is DEDUCED (log 5). -/
def Obligations.ControlChecksInOrder : Prop :=
  ∀ (s : State) (p : Port) (a : Words6) (r : Response) (w : Words6),
    ∀ c ∈ [Command.attach, .detach, .queryPort, .voteReset, .withdrawVote, .start, .setTimebase, .setQuorum, .queryChannel,
      .querySubscription], s.issues p c a →
      judge (s.controlChecks c p a) = some (r, w) → exec (c.row p) s = .next (s.posted p c r w)

/-! ### Attaching, leaving, voting, settings -/

/-- R126, accepted: the record, the cause, and the score lowered in the same event. -/
def Obligations.AttachAdmitsThePort : Prop :=
  ∀ (s : State) (p : Port) (a : Words6), s.issues p .attach a → judge (s.controlChecks .attach p a) = none →
    let r := s.ports.get p
    let score := (if r.state = .isolated then 0 else r.score) - 1
    let t : State :=
      { s with
        ports := s.ports.set p { r with state := .attached, identity := a.w0, quota := a.w1.toNat, score := score }
        windows := s.windows.set p { s.windows.get p with cause := .none } }
    exec (.attach p) s = .next (t.shown p .attach .ok
      { w0 := BitVec.ofNat 16 score, w1 := r.identity, w2 := BitVec.ofNat 16 r.account, w3 := BitVec.ofNat 16 r.credits })

/-- R127, accepted: the score falls by one, the port is purged, it is OFFLINE, and OK is shown. -/
def Obligations.DetachPurgesAndLeaves : Prop :=
  ∀ (s : State) (p : Port) (a : Words6), s.issues p .detach a → judge (s.controlChecks .detach p a) = none →
    let u : State := { s with ports := s.ports.set p { s.ports.get p with score := (s.ports.get p).score - 1 } }
    let t := u.purge p
    let v : State := { t with ports := t.ports.set p { t.ports.get p with state := .offline } }
    exec (.detach p) s = .next (v.shown p .detach .ok { w0 := BitVec.ofNat 16 (t.ports.get p).account })

/-- R156 and R157, accepted: the vote set or withdrawn, VOTE at the other ATTACHED ports, the counter, and the device reset in
CONFIG. -/
def Obligations.VotesAreCastAndWithdrawn : Prop :=
  ∀ (s : State) (p : Port) (a : Words6),
    (s.issues p .voteReset a → judge (s.controlChecks .voteReset p a) = none →
      let cast : State := { s with ports := s.ports.set p { s.ports.get p with vote := true } }
      let t := if (s.ports.get p).vote then s
        else cast.raiseAll .vote (Port.all.filter fun q => s.attached q && decide (q ≠ p))
      let u := t.posted p .voteReset .ok { w0 := BitVec.ofNat 16 t.voteCount, w1 := BitVec.ofNat 16 s.device.quorum }
      exec (.voteReset p) s =
        .next (if s.device.state = .config ∧ s.device.quorum ≤ t.voteCount then u.deviceReset else u)) ∧
    (s.issues p .withdrawVote a → judge (s.controlChecks .withdrawVote p a) = none →
      let t : State := { s with ports := s.ports.set p { s.ports.get p with vote := false } }
      let u : State := if s.device.state = .run ∧ t.voteCount < s.device.quorum
        then { t with device := { s.device with authorization := 0 } } else t
      exec (.withdrawVote p) s = .next (u.posted p .withdrawVote .ok { w0 := BitVec.ofNat 16 t.voteCount }))

/-- R153, R116, R154 and R18, accepted: START, SET_TIMEBASE, SET_QUORUM (with its device reset), SET_WATERMARK. -/
def Obligations.SettingsAreTakenInConfig : Prop :=
  ∀ (s : State) (p : Port) (a : Words6),
    (s.issues p .start a → judge (s.controlChecks .start p a) = none →
      exec (.start p) s =
        .next (({ s with device := { s.device with state := .run } } : State).posted p .start .ok)) ∧
    (s.issues p .setTimebase a → judge (s.controlChecks .setTimebase p a) = none →
      exec (.setTimebase p) s =
        .next (({ s with time := { s.time with prescale := a.w0.toNat + 1, count := 0 } } : State).posted p .setTimebase .ok
          { w0 := a.w0 })) ∧
    (s.issues p .setQuorum a → judge (s.controlChecks .setQuorum p a) = none →
      let u := ({ s with device := { s.device with quorum := a.w0.toNat } } : State).posted p .setQuorum .ok
        { w0 := a.w0, w1 := BitVec.ofNat 16 s.voteCount }
      exec (.setQuorum p) s = .next (if a.w0.toNat ≤ s.voteCount then u.deviceReset else u)) ∧
    (s.issues p .setWatermark a → judge (s.poolChecks .setWatermark p a) = none →
      exec (.setWatermark p) s =
        .next (({ s with watermark := a.w0.toNat } : State).posted p .setWatermark .ok { w0 := a.w0 }))

/-- R2, accepted: the geometry, every record FREE, the free list ascending, the payload store zero, W no greater than N. -/
def Obligations.SetGeometryRebuildsThePool : Prop :=
  ∀ (s : State) (p : Port) (a : Words6) (g : Geometry),
    s.issues p .setGeometry a → judge (s.poolChecks .setGeometry p a) = none → g.slotSize = a.w0.toNat →
    ∃ t : State, exec (.setGeometry p) s = .next (t.posted p .setGeometry .ok
        { w0 := BitVec.ofNat 16 g.slotCount, w1 := a.w0, w2 := BitVec.ofNat 16 (min s.watermark g.slotCount) }) ∧
      g.slotCount * g.slotSize = 8192 ∧
      (∀ i, t.slots.get i = { use := .free, refs := 0 }) ∧
      t.freeList.map (fun i => i.val) = List.range g.slotCount ∧
      (∀ x, Memory.read t.payload x = 0) ∧
      t = { s with
        geometry := g, slots := t.slots, freeList := t.freeList, payload := t.payload
        watermark := min s.watermark g.slotCount, due := { s.due with slots := [] } }

/-! ### Queries -/

/-- R136 and R155: QUERY_PORT and QUERY_DEVICE report and change nothing but the window and the reports. That the success of
QUERY_PORT goes through the list of reports is DEDUCED (log 5). -/
def Obligations.PortAndDeviceQueriesReport : Prop :=
  ∀ (s : State) (p : Port) (a : Words6),
    (∀ q, s.issues p .queryPort a → judge (s.controlChecks .queryPort p a) = none →
      (a.w0 = 0xFFFF ∧ q = p ∨ a.w0.toNat = q.index) →
      let r := s.ports.get q
      let state : Nat := match r.state with | .offline => 0 | .attached => 1 | .isolated => 2
      let cause : Nat := match (s.windows.get q).cause with
        | .none => 0 | .powerOn => 1 | .deviceReset => 2 | .portReset => 3 | .isolated => 4
      exec (.queryPort p) s = .next (s.posted p .queryPort .ok
        (if a.w1 = 0 then
          { w0 := bytesWord state r.score
            w1 := r.identity
            w2 := BitVec.ofNat 16 r.account
            w3 := BitVec.ofNat 16 r.quota
            w4 := ((s.reservations.get q).map fun i => BitVec.ofNat 16 i.val).getD 0xFFFF
            w5 := bytesWord r.credits (((s.waits.get q).map fun l => l.val).getD 0xFF) }
        else
          { w0 := BitVec.ofNat 16 r.coolDown
            w1 := if r.state = .attached then
                (if r.score ≤ 95 then 0 else if r.score ≤ 127 then 1 else 2)
              else 0xFF
            w2 := if r.vote then 1 else 0
            w3 := BitVec.ofNat 16 cause
            w4 := BitVec.ofNat 16 (s.completions.get q).length
            w5 := BitVec.ofNat 16 (s.queues.get q).length }))) ∧
    (s.issues p .queryDevice a →
      exec (.queryDevice p) s = .next (s.posted p .queryDevice .ok
        { w0 := BitVec.ofNat 16 ((if s.device.state = .run then 1 else 0) + (if s.engine.isSome then 2 else 0) +
            4 * s.device.quorum + 32 * s.voteCount + 256 * s.geometry.slotSize)
          w1 := BitVec.ofNat 16 (s.device.authorization + 4096 * s.publishQueue.length)
          w2 := BitVec.ofNat 16 (s.time.prescale - 1)
          w3 := BitVec.ofNat 16 s.freeList.length
          w4 := BitVec.ofNat 16 s.geometry.slotCount
          w5 := BitVec.ofNat 16 s.watermark }))

/-- R40, R41, R79 and R108: the queries of a channel, a subscription (with its clear request), the queue and a lock. -/
def Obligations.RecordQueriesReport : Prop :=
  ∀ (s : State) (p : Port) (a : Words6),
    (∀ ch : ChannelId, s.issues p .queryChannel a → judge (s.controlChecks .queryChannel p a) = none → a.w0.toNat = ch.val →
      let c := s.channels.get ch
      exec (.queryChannel p) s = .next (s.posted p .queryChannel .ok
        (match c.defn with
        | none => { w4 := c.seq, w5 := if c.frozen then 0x0100 else 0 }
        | some d =>
          { w0 := match d.phase with | .active => 1 | .suspended => 2 | .closing => 3
            w1 := if d.kind = .state then 1 else 0
            w2 := BitVec.setWidth 16 d.publishers
            w3 := BitVec.ofNat 16 d.lifetime
            w4 := c.seq
            w5 := bytesWord
              ((if (d.subs.get .A).isSome then 1 else 0) + (if (d.subs.get .B).isSome then 2 else 0) +
                (if (d.subs.get .C).isSome then 4 else 0) + if (d.subs.get .D).isSome then 8 else 0)
              (if c.frozen then 1 else 0) }))) ∧
    (∀ (ch : ChannelId) (q : Port), s.issues p .querySubscription a →
      judge (s.controlChecks .querySubscription p a) = none → a.w0.toNat = ch.val + 256 * q.index →
      exec (.querySubscription p) s =
        match s.sub? ch q with
        | none => .next (s.posted p .querySubscription .ok)
        | some b =>
          let t := if a.w1 = 1 then s.updSub ch q fun b => { b with lost := 0, expired := 0, superseded := 0 } else s
          .next (t.posted p .querySubscription .ok
            { w0 := bytesWord b.depth ((if b.policy = .keepNewest then 1 else 0) + if b.new then 2 else 0)
              w1 := b.tagMatch
              w2 := b.tagMask
              w3 := BitVec.ofNat 16 b.lost
              w4 := BitVec.ofNat 16 b.expired
              w5 := BitVec.ofNat 16 b.superseded })) ∧
    (s.issues p .queryQueue a → judge (s.queueChecks .queryQueue p a) = none →
      let counts : Words6 :=
        { w0 := BitVec.ofNat 16 (s.queues.get p).length
          w1 := BitVec.ofNat 16 ((s.queues.get p).countP (selects a.w0)) }
      exec (.queryQueue p) s = .next (s.posted p .queryQueue .ok
        (match s.holds.get p with
        | none => counts
        | some h =>
          { counts with
            w2 := if h.source = .stream then 1 else 2
            w3 := BitVec.ofNat 16 h.entry.channel.val
            w4 := h.entry.seq
            w5 := BitVec.ofNat 16 h.pointer }))) ∧
    (∀ l : LockId, s.issues p .queryLock a → judge (s.lockChecks .queryLock p a) = none → a.w0.toNat = l.val →
      let k := s.locks.get l
      let flags := (if k.revoked.any fun r => r.port = p then 2 else 0) + if k.frozen then 4 else 0
      exec (.queryLock p) s = .next (s.posted p .queryLock .ok
        { w0 := match k.grant with
            | none => bytesWord flags 0xFF
            | some g => bytesWord (1 + flags) g.holder.index
          w1 := bytesWord k.waiters.length (if p ∈ k.waiters then k.waiters.idxOf p + 1 else 0)
          w2 := BitVec.ofNat 16 k.leaseSetting
          w3 := BitVec.ofNat 16 ((k.grant.bind fun g => g.lease).getD 0)
          w4 := ((k.grant.filter fun g => g.holder = p).map fun g => g.number.extractLsb' 0 16).getD 0
          w5 := ((k.grant.filter fun g => g.holder = p).map fun g => g.number.extractLsb' 16 16).getD 0 }))

/-! ### The slot pool -/

/-- R9 and R17: RESERVE, accepted. Every byte of the slot's payload becomes zero and every other byte stays. -/
def Obligations.ReserveTakesTheHeadOfTheFreeList : Prop :=
  ∀ (s : State) (p : Port) (a : Words6) (ch : ChannelId) (i : SlotId) (rest : List SlotId),
    s.issues p .reserve a → judge (s.poolChecks .reserve p a) = none → a.w0.toNat = ch.val → s.freeList = i :: rest →
    ∃ t : State,
      exec (.reserve p) s = .next (t.posted p .reserve .ok
        { w0 := BitVec.ofNat 16 i.val
          w1 := BitVec.ofNat 16 s.geometry.slotSize
          w2 := BitVec.ofNat 16 rest.length }) ∧
      (∀ x, Memory.read t.payload x =
        if i.val * s.geometry.slotSize ≤ x ∧ x < i.val * s.geometry.slotSize + s.geometry.slotSize then 0
        else Memory.read s.payload x) ∧
      let u : State :=
        { s with
          freeList := rest
          slots := s.slots.set i { use := .filling ch p, refs := 1 }
          payload := t.payload
          ports := s.ports.set p { s.ports.get p with account := (s.ports.get p).account + 1 }
          reservations := s.reservations.set p (some i)
          windows := s.windows.set p { s.windows.get p with fillPointer := 0 } }
      t = if s.watermark ≤ rest.length + 1 ∧ rest.length < s.watermark
        then u.raiseAll .poolLow (Port.all.filter s.attached) else u

/-- R5: a release lowers the count; the release that brings it to 0 frees the slot to the tail of the free list and lowers its
account port's account. That a freed slot's outstanding share of a tick falls is DEDUCED (log 9). -/
def Obligations.LastReleaseFreesTheSlot : Prop :=
  ∀ (s : State) (i : SlotId),
    ((s.slots.get i).refs = 1 → s.release i =
      { s with
        slots := s.slots.set i { use := .free, refs := 0 }
        freeList := s.freeList ++ [i]
        ports := match (s.slots.get i).use with
          | .free => s.ports
          | .filling _ q => s.ports.set q { s.ports.get q with account := (s.ports.get q).account - 1 }
          | .message m => s.ports.set m.account { s.ports.get m.account with account := (s.ports.get m.account).account - 1 }
        due := { s.due with slots := s.due.slots.filter fun j => decide (j ≠ i) } }) ∧
    ((s.slots.get i).refs ≠ 1 → s.release i =
      { s with slots := s.slots.set i { s.slots.get i with refs := (s.slots.get i).refs - 1 } })

/-- R11 and R12: the fill locations, in every port state, with and without a reservation, below and at the slot size. -/
def Obligations.FillLocationsWriteTheReservedSlot : Prop :=
  ∀ (s : State) (p : Port) (w : Word), s.porAsserted = false →
    (s.attached p = false → exec (.fillData p w) s = .next s ∧ exec (.fillPointer p w) s = .next s) ∧
    (s.attached p = true → s.reservations.get p = none →
      exec (.fillData p w) s = .next (s.locationFaulted p .noReservation 0x20) ∧
      exec (.fillPointer p w) s = .next (s.locationFaulted p .noReservation 0x21)) ∧
    ∀ i, s.attached p = true → s.reservations.get p = some i →
      let k := (s.windows.get p).fillPointer
      let base := i.val * s.geometry.slotSize
      (s.geometry.slotSize ≤ k → exec (.fillData p w) s = .next (s.locationFaulted p .fillOverrun 0x20)) ∧
      (k < s.geometry.slotSize → k % 2 = 0 → i.val < s.geometry.slotCount → s.PayloadCanonical →
        ∃ t : State, exec (.fillData p w) s = .next t ∧
          (∀ x, Memory.read t.payload x =
            if x = base + k then w.extractLsb' 0 8
            else if x = base + k + 1 then w.extractLsb' 8 8
            else Memory.read s.payload x) ∧
          t = { s with
            payload := t.payload
            windows := s.windows.set p { s.windows.get p with fillPointer := k + 2 } }) ∧
      exec (.fillPointer p w) s =
        .next (if w.toNat % 2 = 0 ∧ w.toNat ≤ s.geometry.slotSize - 2
          then { s with windows := s.windows.set p { s.windows.get p with fillPointer := w.toNat } }
          else s.locationFaulted p .badArgument 0x21)

/-! ### Publishing -/

/-- R46: PUBLISH, accepted. -/
def Obligations.PublishQueuesTheReservedSlot : Prop :=
  ∀ (s : State) (p : Port) (a : Words6) (i : SlotId) (ch : ChannelId) (q : Port) (d : ChannelDef),
    s.issues p .publish a → judge (s.publishChecks .publish p a) = none →
    s.reservations.get p = some i → (s.slots.get i).use = .filling ch q → (s.channels.get ch).defn = some d →
    let c := s.channels.get ch
    let m : Message :=
      { phase := .pending, channel := ch, account := q, seq := c.seq + 1, tag := a.w1, length := a.w0.toNat
        lifetime := if d.lifetime = 0 then none else some d.lifetime }
    let t : State :=
      { s with
        channels := s.channels.set ch { c with seq := c.seq + 1 }
        slots := s.slots.set i { use := .message m, refs := (s.slots.get i).refs }
        publishQueue := s.publishQueue ++ [{ slot := i, publisher := p, orphaned := false }]
        ports := s.ports.set p { s.ports.get p with credits := (s.ports.get p).credits - 1 }
        reservations := s.reservations.set p none
        windows := s.windows.set p { s.windows.get p with fillPointer := 0 } }
    exec (.publish p) s = .next (t.posted p .publish .ok
      { w0 := c.seq + 1, w1 := BitVec.ofNat 16 i.val, w2 := BitVec.ofNat 16 ((s.ports.get p).credits - 1) })

/-- R60: COLLECT, accepted. -/
def Obligations.CollectReturnsTheOldestRecord : Prop :=
  ∀ (s : State) (p : Port) (a : Words6) (c : Completion) (rest : List Completion),
    s.issues p .collect a → judge (s.publishChecks .collect p a) = none → s.completions.get p = c :: rest →
    let t : State :=
      { s with
        completions := s.completions.set p rest
        ports := s.ports.set p { s.ports.get p with credits := (s.ports.get p).credits + 1 } }
    exec (.collect p) s = .next (t.posted p .collect .ok
      { w0 := BitVec.ofNat 16 c.channel.val
        w1 := c.seq
        w2 := match c.outcome with
          | .delivered => 0
          | .noneDelivered => 1
          | .channelClosed => 2
          | .expired => 3
        w3 := bytesWord c.counts.placed c.counts.filtered
        w4 := bytesWord c.counts.offline c.counts.dropped
        w5 := BitVec.ofNat 16 rest.length })

/-- R52 and R85: the fan-out start, on a STREAM and on a STATE channel. -/
def Obligations.FanOutStartTakesTheHeadRequest : Prop :=
  ∀ (s : State) (r : Request) (rest : List Request) (m : Message),
    s.porAsserted = false → s.engine = none → s.publishQueue = r :: rest → (s.slots.get r.slot).use = .message m →
    let x := s.slots.get r.slot
    let spreading : State :=
      { s with
        publishQueue := rest
        engine := some
          { request := r, cursor := .visit .A, counts := { placed := 0, filtered := 0, offline := 0, dropped := 0 }
            expired := false }
        slots := s.slots.set r.slot { use := .message { m with phase := .spreading }, refs := x.refs } }
    ((∀ d, s.defn? m.channel = some d → d.kind = .stream) → exec .fanOutStart s = .next spreading) ∧
    ∀ d, s.defn? m.channel = some d → d.kind = .state →
      let u : State :=
        { spreading with
          slots := s.slots.set r.slot { use := .message { m with phase := .spreading }, refs := x.refs + 1 }
          channels := s.channels.set m.channel
            { s.channels.get m.channel with defn := some { d with current := some r.slot } } }
      exec .fanOutStart s = .next (match d.current with
        | none => u
        | some j => u.release j)

/-- R25: a tag is accepted when it agrees with the match in every position the mask selects. -/
def Obligations.TagFilterComparesTheMaskedPositions : Prop :=
  ∀ (b : Subscription) (tag : Word),
    (b.accepts tag = true ↔ ∀ j, b.tagMask.getLsbD j = true → tag.getLsbD j = b.tagMatch.getLsbD j) ∧
    (b.tagMask = 0 → b.accepts tag = true) ∧
    (b.tagMask = 0xFFFF → (b.accepts tag = true ↔ tag = b.tagMatch))

/-- R53, R54, R55 and R57: the placement event, by the first condition that holds; the cursor moves on in every case. -/
def Obligations.PlacementClassesThePort : Prop :=
  ∀ (s : State) (f : FanOut) (p : Port) (m : Message),
    s.porAsserted = false → s.engine = some f → f.cursor = .visit p → s.message? f.request.slot = some m →
    let next : Cursor := match p with
      | .A => .visit .B
      | .B => .visit .C
      | .C => .visit .D
      | .D => .finish
    let moved (t : State) (n : Counts) : State := { t with engine := some { f with cursor := next, counts := n } }
    let n := f.counts
    let ch := m.channel
    let q := s.queues.get p
    let ours := q.countP fun e => decide (e.channel = ch)
    let e : Entry :=
      { slot := f.request.slot, channel := ch, seq := m.seq, tag := m.tag, length := m.length, publisher := f.request.publisher }
    let append (t : State) : State :=
      ({ t with
          queues := t.queues.set p (t.queues.get p ++ [e])
          slots := t.slots.set e.slot { t.slots.get e.slot with refs := (t.slots.get e.slot).refs + 1 } } : State).raise p .queue
    let lose (t : State) : State :=
      (t.updSub ch p fun b => { b with lost := if b.lost < 65535 then b.lost + 1 else 65535 }).raise p .lost
    (s.sub? ch p = none → exec .placementEvent s = .next (moved s n)) ∧
    ∀ d b, s.defn? ch = some d → d.subs.get p = some b →
      (s.attached p = false → exec .placementEvent s = .next (moved s { n with offline := n.offline + 1 })) ∧
      (s.attached p = true → b.accepts m.tag = false →
        exec .placementEvent s = .next (moved s { n with filtered := n.filtered + 1 })) ∧
      (s.attached p = true → b.accepts m.tag = true → d.kind = .stream →
        (ours < b.depth → q.length < 64 →
          exec .placementEvent s = .next (moved (append s) { n with placed := n.placed + 1 })) ∧
        (b.depth ≤ ours ∨ 64 ≤ q.length →
          (∀ o, b.policy = .keepNewest → (q.find? fun x => decide (x.channel = ch)) = some o →
            let u := ({ s with queues := s.queues.set p (q.eraseP fun x => decide (x.channel = ch)) } : State).release o.slot
            exec .placementEvent s = .next (moved (append (lose u)) { n with placed := n.placed + 1 })) ∧
          (b.policy = .keepOldest ∨ ours = 0 →
            exec .placementEvent s = .next (moved (lose s) { n with dropped := n.dropped + 1 })))) ∧
      (s.attached p = true → b.accepts m.tag = true → d.kind = .state →
        let t := (s.updSub ch p fun b =>
          { b with
            superseded := if b.new then (if b.superseded < 65535 then b.superseded + 1 else 65535) else b.superseded
            new := true }).raise p .stateNew
        exec .placementEvent s = .next (moved t { n with placed := n.placed + 1 }))

/-- R58: the fan-out end: the publish hold released, the record made unless orphaned, the engine IDLE, the deferred close. -/
def Obligations.FanOutEndMakesTheRecord : Prop :=
  ∀ (s : State) (f : FanOut) (m : Message),
    s.porAsserted = false → s.engine = some f → f.cursor = .finish → s.message? f.request.slot = some m →
    let i := f.request.slot
    let released := s.release i
    let settled : State := match (released.slots.get i).use with
      | .message x =>
        { released with
          slots := released.slots.set i
            { released.slots.get i with
              use := .message { x with phase := if x.phase = .spreading then .live else x.phase } } }
      | _ => released
    let record : Completion :=
      { channel := m.channel, seq := m.seq, counts := f.counts
        outcome := if f.expired then .expired else if 1 ≤ f.counts.placed then .delivered else .noneDelivered }
    let q := f.request.publisher
    let recorded : State := if f.request.orphaned then settled
      else ({ settled with completions := settled.completions.set q (settled.completions.get q ++ [record]) } : State).raise q
        .completion
    let idle : State := { recorded with engine := none }
    exec .fanOutEnd s =
      .next (if (s.defn? m.channel).any fun d => decide (d.phase = .closing) then idle.closeChannel m.channel else idle)

/-! ### Delivery queues, read holds and state currents -/

/-- R72: TAKE, accepted: the oldest matching entry moves into the read hold, its reference with it. -/
def Obligations.TakeMovesTheOldestMatchingEntry : Prop :=
  ∀ (s : State) (p : Port) (a : Words6) (e : Entry),
    s.issues p .take a → judge (s.queueChecks .take p a) = none → (s.queues.get p).find? (selects a.w0) = some e →
    let rest := (s.queues.get p).eraseP (selects a.w0)
    let t : State :=
      { s with
        queues := s.queues.set p rest
        holds := s.holds.set p (some { entry := e, source := .stream, pointer := 0 }) }
    exec (.take p) s = .next (t.posted p .take .ok
      { w0 := BitVec.ofNat 16 e.channel.val
        w1 := e.seq
        w2 := e.tag
        w3 := BitVec.ofNat 16 e.length
        w4 := bytesWord e.publisher.index e.slot.val
        w5 := BitVec.ofNat 16 rest.length })

/-- R14, R74 and R75: ABANDON, DISCARD and DONE, accepted: the reference released, and the reservation, the entry or the hold gone.
-/
def Obligations.AbandonDiscardAndDoneReleaseTheReference : Prop :=
  ∀ (s : State) (p : Port) (a : Words6),
    (∀ i, s.issues p .abandon a → judge (s.poolChecks .abandon p a) = none → s.reservations.get p = some i →
      let u := s.release i
      let t : State :=
        { u with
          reservations := u.reservations.set p none
          windows := u.windows.set p { u.windows.get p with fillPointer := 0 } }
      exec (.abandon p) s = .next (t.posted p .abandon .ok { w0 := BitVec.ofNat 16 i.val })) ∧
    (∀ e, s.issues p .discard a → judge (s.queueChecks .discard p a) = none →
      (s.queues.get p).find? (selects a.w0) = some e →
      let rest := (s.queues.get p).eraseP (selects a.w0)
      let t := ({ s with queues := s.queues.set p rest } : State).release e.slot
      exec (.discard p) s = .next (t.posted p .discard .ok
        { w0 := BitVec.ofNat 16 e.channel.val
          w1 := e.seq
          w2 := e.tag
          w3 := BitVec.ofNat 16 e.length
          w4 := bytesWord e.publisher.index e.slot.val
          w5 := BitVec.ofNat 16 rest.length })) ∧
    (∀ h, s.issues p .done a → judge (s.queueChecks .done p a) = none → s.holds.get p = some h →
      let u := s.release h.entry.slot
      let t : State := { u with holds := u.holds.set p none }
      exec (.done p) s = .next (t.posted p .done .ok
        { w0 := BitVec.ofNat 16 h.entry.channel.val
          w1 := h.entry.seq
          w2 := if h.source = .stream then 0 else 1
          w3 := h.entry.tag
          w4 := BitVec.ofNat 16 h.entry.publisher.index }))

/-- R89: READ_STATE, accepted, of a named channel and of the next channel with news. -/
def Obligations.ReadStateReadsTheCurrentValue : Prop :=
  ∀ (s : State) (p : Port) (a : Words6) (ch : ChannelId) (i : SlotId) (m : Message) (d : ChannelDef) (b : Subscription),
    s.issues p .readState a → judge (s.readStateChecks p a) = none → s.valueFor p a.w0 = some (ch, i, m) →
    (s.channels.get ch).defn = some d → d.subs.get p = some b →
    let e : Entry :=
      { slot := i, channel := m.channel, seq := m.seq, tag := m.tag, length := m.length, publisher := m.account }
    let t : State :=
      { s with
        slots := s.slots.set i { s.slots.get i with refs := (s.slots.get i).refs + 1 }
        holds := s.holds.set p (some { entry := e, source := .state, pointer := 0 })
        channels := s.channels.set ch
          { s.channels.get ch with defn := some { d with subs := d.subs.set p (some { b with new := false }) } } }
    exec (.readState p) s = .next (t.posted p .readState .ok
      { w0 := BitVec.ofNat 16 m.channel.val
        w1 := m.seq
        w2 := m.tag
        w3 := BitVec.ofNat 16 m.length
        w4 := bytesWord m.account.index i.val
        w5 := if b.new then 1 else 0 })

/-- R76 and R77: the read locations, in every port state, with the hold empty and occupied, below and past the length. The word a
read returns stands in `readData` (log 12). -/
def Obligations.ReadLocationsReadTheHeldMessage : Prop :=
  ∀ (s : State) (p : Port) (w : Word), s.porAsserted = false →
    let driven (x : Word) : PerPort Window := s.windows.set p { s.windows.get p with readData := x }
    (s.attached p = false ∨ s.holds.get p = none →
      exec (.readData p) s = .next { s with windows := driven 0 } ∧ exec (.readPointer p w) s = .next s) ∧
    ∀ h, s.attached p = true → s.holds.get p = some h →
      let base := h.entry.slot.val * s.geometry.slotSize
      let k := h.pointer
      (h.entry.length ≤ k → exec (.readData p) s = .next { s with windows := driven 0 }) ∧
      (k < h.entry.length → k % 2 = 0 → h.entry.slot.val < s.geometry.slotCount → h.entry.length ≤ s.geometry.slotSize →
        let low : Byte := Memory.read s.payload (base + k)
        let high : Byte := if k + 1 < h.entry.length then Memory.read s.payload (base + k + 1) else 0
        exec (.readData p) s =
          .next { s with windows := driven (high ++ low), holds := s.holds.set p (some { h with pointer := k + 2 }) }) ∧
      exec (.readPointer p w) s =
        .next (if w.toNat % 2 = 0 ∧ w.toNat ≤ s.geometry.slotSize - 2
          then { s with holds := s.holds.set p (some { h with pointer := w.toNat }) }
          else s.locationFaulted p .badArgument 0x25)

/-! ### Locks -/

/-- R102 and R98: a handoff to the first waiter, under the next number and with a fresh lease; or the lock becomes FREE. -/
def Obligations.HandoffPassesTheLockOn : Prop :=
  ∀ (s : State) (l : LockId), let k := s.locks.get l
    (k.waiters = [] → s.handoff l = { s with locks := s.locks.set l { k with grant := none } }) ∧
    ∀ w ws, k.waiters = w :: ws → s.handoff l =
      ({ s with
          locks := s.locks.set l
            { k with
              waiters := ws
              lastIssued := k.lastIssued + 1
              grant := some
                { holder := w, number := k.lastIssued + 1
                  lease := if k.leaseSetting = 0 then none else some k.leaseSetting } }
          waits := s.waits.set w none } : State).raise w .grant

/-- R99 orders 4 and 8, and R107's removal from the waiter list: ACQUIRE granted and queued, CANCEL_WAIT answered OK. -/
def Obligations.LocksAreAcquiredQueuedForAndGivenUp : Prop :=
  ∀ (s : State) (p : Port) (a : Words6) (l : LockId), a.w0.toNat = l.val → let k := s.locks.get l
    (s.issues p .acquire a → judge (s.lockChecks .acquire p a) = none → k.grant = none →
      let number := k.lastIssued + 1
      let lease := if k.leaseSetting = 0 then none else some k.leaseSetting
      let t : State :=
        { s with
          locks := s.locks.set l
            { k with lastIssued := number, grant := some { holder := p, number := number, lease := lease } } }
      exec (.acquire p) s = .next (t.posted p .acquire .ok
        { w0 := number.extractLsb' 0 16, w1 := number.extractLsb' 16 16, w2 := BitVec.ofNat 16 (lease.getD 0) })) ∧
    (∀ g, s.issues p .acquire a → judge (s.lockChecks .acquire p a) = none → k.grant = some g →
      let t : State :=
        { s with
          locks := s.locks.set l { k with waiters := k.waiters ++ [p] }
          waits := s.waits.set p (some l) }
      exec (.acquire p) s = .next (t.posted p .acquire .queued { w0 := BitVec.ofNat 16 (k.waiters.length + 1) })) ∧
    (s.issues p .cancelWait a → judge (s.lockChecks .cancelWait p a) = none →
      let t : State :=
        { s with
          locks := s.locks.set l { k with waiters := k.waiters.filter fun q => decide (q ≠ p) }
          waits := s.waits.set p none }
      exec (.cancelWait p) s = .next (t.posted p .cancelWait .ok))

/-- R101 order 1, R105, R109 and R110, accepted: RELEASE hands the lock off and reports to whom; RENEW restarts the lease; SET_LEASE
and FREEZE_LOCK change the lock's setting and frozen flag. -/
def Obligations.HeldLocksAndLockSettingsChange : Prop :=
  ∀ (s : State) (p : Port) (a : Words6) (l : LockId), a.w0.toNat = l.val → let k := s.locks.get l
    (s.issues p .release a → judge (s.lockChecks .release p a) = none →
      exec (.release p) s = .next ((s.handoff l).posted p .release .ok
        (match k.waiters with
        | [] => {}
        | w :: _ => { w0 := 1, w1 := BitVec.ofNat 16 w.index }))) ∧
    (∀ g, s.issues p .renew a → judge (s.lockChecks .renew p a) = none → k.grant = some g →
      let lease := if k.leaseSetting = 0 then none else some k.leaseSetting
      let t : State := { s with locks := s.locks.set l { k with grant := some { g with lease := lease } } }
      exec (.renew p) s = .next (t.posted p .renew .ok { w0 := BitVec.ofNat 16 (lease.getD 0) })) ∧
    (s.issues p .setLease a → judge (s.configurationChecks .setLease p a) = none →
      exec (.setLease p) s =
        .next (({ s with locks := s.locks.set l { k with leaseSetting := a.w1.toNat } } : State).posted p .setLease .ok
          { w0 := a.w1 })) ∧
    (s.issues p .freezeLock a → judge (s.configurationChecks .freezeLock p a) = none →
      exec (.freezeLock p) s =
        .next (({ s with locks := s.locks.set l { k with frozen := true } } : State).posted p .freezeLock .ok))

/-- R103 and R104 (with R102 and R106): the lock table takes the tick that ends a lease as one event. Every other lease falls by one;
every lock whose lease ends has its revoked grant set and is handed off, with LEASE_LOST and the report. That the tick is due there
until its row comes is DEDUCED (log 7), the list of reports likewise (logs 4 and 26). That a lease found at 1 ends although it was
renewed, at setting 1, ahead of the due tick is the model's choice (log 28). -/
def Obligations.LeaseExpiryRevokesAndHandsOff : Prop :=
  ∀ (s : State) (l : LockId), s.porAsserted = false → l ∈ s.due.locks →
    let ends (m : LockId) : Bool := (s.locks.get m).grant.any fun g => g.lease.any fun n => decide (n ≤ 1)
    let granted (p : Port) : Bool := (indices 16).any fun m => ends m && decide ((s.locks.get m).waiters.head? = some p)
    let lost (p : Port) : Bool := (indices 16).any fun m => ends m && (s.locks.get m).grant.any fun g => decide (g.holder = p)
    ∃ t, exec (.leaseExpiry l) s = .next t ∧
      (∀ m, let k := s.locks.get m
        (k.grant = none → t.locks.get m = k) ∧
        ∀ g, k.grant = some g →
          (g.lease = none → t.locks.get m = k) ∧
          ∀ n, g.lease = some n →
            (1 < n → t.locks.get m = { k with grant := some { g with lease := some (n - 1) } }) ∧
            (n ≤ 1 → t.locks.get m =
              let k := { k with revoked := some { number := g.number, port := g.holder } }
              match k.waiters with
              | [] => { k with grant := none }
              | w :: ws =>
                { k with
                  waiters := ws
                  lastIssued := k.lastIssued + 1
                  grant := some
                    { holder := w, number := k.lastIssued + 1
                      lease := if k.leaseSetting = 0 then none else some k.leaseSetting } })) ∧
      (∀ p, t.waits.get p = if granted p then none else s.waits.get p) ∧
      (∀ p, t.events.get p = { s.events.get p with
        pending := (s.events.get p).pending ||| (if granted p then 8#12 else 0#12) ||| if lost p then 4#12 else 0#12 }) ∧
      t.reports = s.reports ++ (indices 16).filterMap (fun m => (s.locks.get m).grant.bind fun g =>
        if ends m && s.attached g.holder then some { port := g.holder, kind := .leaseExpiry } else none) ∧
      t = { s with
        locks := t.locks, waits := t.waits, events := t.events, reports := t.reports, due := { s.due with locks := [] } }

/-! ### Channels and subscriptions -/

/-- R29 and R30: DEFINE_CHANNEL and SET_CHANNEL, accepted. -/
def Obligations.ChannelsAreDefinedAndReconfigured : Prop :=
  ∀ (s : State) (p : Port) (a : Words6) (ch : ChannelId), a.w0.toNat = ch.val → let c := s.channels.get ch
    (s.issues p .defineChannel a → judge (s.configurationChecks .defineChannel p a) = none →
      let d : ChannelDef :=
        { phase := .active, kind := if a.w1 = 0 then .stream else .state, publishers := a.w2.extractLsb' 0 4
          lifetime := a.w3.toNat, subs := PerPort.all none, current := none }
      exec (.defineChannel p) s =
        .next (({ s with channels := s.channels.set ch { c with defn := some d } } : State).posted p .defineChannel .ok
          { w0 := c.seq })) ∧
    (∀ d, s.issues p .setChannel a → judge (s.configurationChecks .setChannel p a) = none → c.defn = some d →
      exec (.setChannel p) s =
        .next (({ s with
          channels := s.channels.set ch
            { c with defn := some { d with publishers := a.w2.extractLsb' 0 4, lifetime := a.w3.toNat } } } : State).posted p
          .setChannel .ok))

/-- R31, R32 and R34: SUBSCRIBE creates or replaces the record and trims the excess of a STREAM channel, oldest first;
UNSUBSCRIBE releases the port's entries of the channel and removes the record. -/
def Obligations.SubscriptionsAreMadeTrimmedAndRemoved : Prop :=
  ∀ (s : State) (p : Port) (a : Words6) (ch : ChannelId) (q : Port) (d : ChannelDef),
    a.w0.toNat = ch.val + 256 * q.index → (s.channels.get ch).defn = some d →
    let c := s.channels.get ch
    let depth := if a.w1.toNat % 256 = 0 then 4 else a.w1.toNat % 256
    let policy : Policy := if a.w1.toNat / 256 = 0 then .keepOldest else .keepNewest
    let ofChannel (e : Entry) : Bool := decide (e.channel = ch)
    let withSub (b : Option Subscription) : State :=
      { s with channels := s.channels.set ch { c with defn := some { d with subs := d.subs.set q b } } }
    (s.issues p .subscribe a → judge (s.configurationChecks .subscribe p a) = none → d.subs.get q = none →
      exec (.subscribe p) s = .next ((withSub (some
        { depth := depth, policy := policy, tagMatch := a.w2, tagMask := a.w3, lost := 0, expired := 0, superseded := 0
          new := false })).posted p .subscribe .ok)) ∧
    (∀ b, s.issues p .subscribe a → judge (s.configurationChecks .subscribe p a) = none → d.subs.get q = some b →
      b.lost ≤ 65535 →
      let excess := if d.kind = .stream then (s.queues.get q).countP ofChannel - depth else 0
      let t := (withSub (some { b with depth := depth, policy := policy, tagMatch := a.w2, tagMask := a.w3 })).trim q ch excess
      exec (.subscribe p) s = .next (t.posted p .subscribe .ok { w0 := BitVec.ofNat 16 excess, w1 := 1 }) ∧
      (t.queues.get q).filter ofChannel = ((s.queues.get q).filter ofChannel).drop excess ∧
      (t.queues.get q).filter (fun e => !ofChannel e) = (s.queues.get q).filter (fun e => !ofChannel e) ∧
      t.sub? ch q = some
        { b with
          depth := depth, policy := policy, tagMatch := a.w2, tagMask := a.w3, lost := min 65535 (b.lost + excess) } ∧
      (excess ≠ 0 → (t.events.get q).pending.getLsbD 7 = true)) ∧
    (s.issues p .unsubscribe a → judge (s.configurationChecks .unsubscribe p a) = none →
      let gone := (s.queues.get q).filter ofChannel
      let u := ({ s with queues := s.queues.set q ((s.queues.get q).filter fun e => !ofChannel e) } : State).releaseAll
        (gone.map fun e => e.slot)
      let t : State :=
        { u with channels := s.channels.set ch { c with defn := some { d with subs := d.subs.set q none } } }
      exec (.unsubscribe p) s = .next (t.posted p .unsubscribe .ok { w0 := BitVec.ofNat 16 gone.length }))

/-- R35 and R39: SUSPEND and RESUME with CHANNEL at the attached subscribers, and FREEZE_CHANNEL. -/
def Obligations.ChannelsAreSuspendedResumedAndFrozen : Prop :=
  ∀ (s : State) (p : Port) (a : Words6) (ch : ChannelId) (d : ChannelDef),
    a.w0.toNat = ch.val → (s.channels.get ch).defn = some d →
    let c := s.channels.get ch
    let told := Port.all.filter fun q => (d.subs.get q).isSome && s.attached q
    let moved (phase : ChannelPhase) : State :=
      ({ s with channels := s.channels.set ch { c with defn := some { d with phase := phase } } } : State).raiseAll .channel told
    (s.issues p .suspend a → judge (s.configurationChecks .suspend p a) = none →
      exec (.suspend p) s = .next ((moved .suspended).posted p .suspend .ok)) ∧
    (s.issues p .resume a → judge (s.configurationChecks .resume p a) = none →
      exec (.resume p) s = .next ((moved .active).posted p .resume .ok)) ∧
    (s.issues p .freezeChannel a → judge (s.configurationChecks .freezeChannel p a) = none →
      exec (.freezeChannel p) s =
        .next (({ s with channels := s.channels.set ch { c with frozen := true } } : State).posted p .freezeChannel .ok))

/-- R36 and R37: CLOSE, accepted: at once, deferred while the engine spreads a message of the channel, or already pending. -/
def Obligations.CloseActsAtOnceOrIsDeferred : Prop :=
  ∀ (s : State) (p : Port) (a : Words6) (ch : ChannelId) (d : ChannelDef),
    s.issues p .close a → judge (s.configurationChecks .close p a) = none → a.w0.toNat = ch.val →
    (s.channels.get ch).defn = some d →
    let onChannel (i : SlotId) : Bool := (s.message? i).any fun m => decide (m.channel = ch)
    let spreading := s.engine.any fun f => onChannel f.request.slot
    (d.phase = .closing → exec (.close p) s = .next (s.posted p .close .closePending)) ∧
    (d.phase ≠ .closing → spreading = true →
      exec (.close p) s =
        .next (({ s with
          channels := s.channels.set ch { s.channels.get ch with defn := some { d with phase := .closing } } } : State).posted p
          .close .closePending)) ∧
    (d.phase ≠ .closing → spreading = false →
      exec (.close p) s = .next ((s.closeChannel ch).posted p .close .ok
        { w0 := BitVec.ofNat 16 (s.publishQueue.countP fun r => onChannel r.slot)
          w1 := BitVec.ofNat 16
            ((Port.all.map fun q => (s.queues.get q).countP fun e => decide (e.channel = ch)).sum) }))

/-- R36 and R38: what a close does. No request, entry, current value or subscription of the channel is left; its counter and frozen
flag stay; read holds and reservations are not touched; CHANNEL is raised at every former subscriber that is ATTACHED. Where no two
requests name one slot (R50), each removed request that is not orphaned has its CHANNEL_CLOSED record, with COMPLETION, and the
references are released in the order of steps 1 to 3. -/
def Obligations.ClosedChannelLeavesNothing : Prop :=
  ∀ (s : State) (ch : ChannelId) (d : ChannelDef), (s.channels.get ch).defn = some d →
    let t := s.closeChannel ch
    let gone := s.publishQueue.filter fun r => (s.message? r.slot).any fun m => decide (m.channel = ch)
    let told (q : Port) : Bool := (d.subs.get q).isSome && s.attached q
    let recorded (q : Port) : List Request := gone.filter fun r => decide (r.publisher = q) && !r.orphaned
    let entries (q : Port) : List Entry := (s.queues.get q).filter fun e => decide (e.channel = ch)
    let released := s.releaseAll (gone.map (fun r => r.slot) ++
      (entries .A ++ entries .B ++ entries .C ++ entries .D).map (fun e => e.slot) ++ d.current.toList)
    t.channels = s.channels.set ch { s.channels.get ch with defn := none } ∧
    t.publishQueue = s.publishQueue.filter (fun r => !(s.message? r.slot).any fun m => decide (m.channel = ch)) ∧
    (∀ q, t.queues.get q = (s.queues.get q).filter fun e => decide (e.channel ≠ ch)) ∧
    (∀ q, told q = true → (t.events.get q).pending.getLsbD 9 = true) ∧
    ((s.publishQueue.map fun r => r.slot).Nodup →
      (∀ q, t.completions.get q = s.completions.get q ++ (recorded q).filterMap fun r => (s.message? r.slot).map fun m =>
        { channel := ch, seq := m.seq, outcome := .channelClosed
          counts := { placed := 0, filtered := 0, offline := 0, dropped := 0 } }) ∧
      (∀ q, t.events.get q = { s.events.get q with
        pending := (s.events.get q).pending ||| (if recorded q = [] then 0#12 else 16#12) ||| if told q then 512#12 else 0#12 }) ∧
      t.slots = released.slots ∧ t.freeList = released.freeList ∧ t.ports = released.ports ∧ t.due = released.due) ∧
    t.holds = s.holds ∧ t.reservations = s.reservations ∧ t.windows = s.windows ∧ t.locks = s.locks ∧ t.waits = s.waits ∧
    t.engine = s.engine ∧ t.time = s.time ∧ t.device = s.device ∧ t.payload = s.payload ∧ t.reports = s.reports ∧
    t.geometry = s.geometry ∧ t.watermark = s.watermark ∧ t.pending = s.pending ∧ t.porAsserted = s.porAsserted

/-! ### The port window -/

/-- R146, R148 and R149: a write to COMMAND issues a command, is a COLLISION, or is an unknown code, whichever the window's state
and the code make it (that the three rows are routed so is DEDUCED, log 2). With it the catalogue of 10.5 and the response codes and
classes of 10.6; the report of a fault stands in the list of reports (logs 4 and 26). -/
def Obligations.CommandWritesIssueCollideOrAreUnknown : Prop :=
  (∀ c : Command, c.code = match c with
    | .attach => 0x01 | .detach => 0x02 | .queryPort => 0x03 | .voteReset => 0x04 | .withdrawVote => 0x05 | .start => 0x06
    | .setGeometry => 0x07 | .setTimebase => 0x08 | .setQuorum => 0x09 | .setWatermark => 0x0A | .queryDevice => 0x0B
    | .reserve => 0x10 | .abandon => 0x11 | .publish => 0x12 | .collect => 0x13
    | .take => 0x18 | .done => 0x19 | .discard => 0x1A | .readState => 0x1B | .queryQueue => 0x1C
    | .acquire => 0x20 | .release => 0x21 | .renew => 0x22 | .cancelWait => 0x23 | .queryLock => 0x24
    | .defineChannel => 0x28 | .setChannel => 0x29 | .subscribe => 0x2A | .unsubscribe => 0x2B | .suspend => 0x2C
    | .resume => 0x2D | .close => 0x2E | .freezeChannel => 0x2F | .setLease => 0x30 | .freezeLock => 0x31
    | .queryChannel => 0x32 | .querySubscription => 0x33) ∧
  (∀ r : Response, (r.code, r.classOf) = match r with
    | .ok => (0x00, .success) | .queued => (0x01, .success) | .closePending => (0x02, .success)
    | .busy => (0x10, .refusal) | .poolEmpty => (0x11, .refusal) | .quota => (0x12, .refusal) | .denied => (0x13, .refusal)
    | .empty => (0x14, .refusal) | .suspended => (0x15, .refusal) | .closed => (0x16, .refusal)
    | .restricted => (0x17, .refusal) | .notRunning => (0x18, .refusal) | .offline => (0x19, .refusal)
    | .isolated => (0x1A, .refusal) | .cooling => (0x1B, .refusal) | .leaseExpired => (0x1C, .refusal)
    | .notWaiting => (0x1D, .refusal) | .reset => (0x1E, .refusal)
    | .unknownCommand => (0x20, .fault) | .badArgument => (0x21, .fault) | .wrongState => (0x22, .fault)
    | .noChannel => (0x23, .fault) | .notPublisher => (0x24, .fault) | .noReservation => (0x25, .fault)
    | .reservationHeld => (0x26, .fault) | .length => (0x27, .fault) | .holdEmpty => (0x28, .fault)
    | .holdFull => (0x29, .fault) | .notHolder => (0x2A, .fault) | .alreadyHolder => (0x2B, .fault)
    | .alreadyWaiting => (0x2C, .fault) | .staleGrant => (0x2D, .fault) | .frozen => (0x2E, .fault)
    | .needConfigLock => (0x2F, .fault) | .notSubscriber => (0x30, .fault) | .collision => (0x31, .fault)
    | .fillOverrun => (0x32, .fault)) ∧
  ∀ (s : State) (p : Port) (w : Word), s.porAsserted = false →
    let x := s.windows.get p
    let code : Byte := w.extractLsb' 0 8
    ∀ i ∈ [Instr.commandIssue p w, .collision p w, .unknownCommand p w, .registerWrite p 0x00 w],
      (∀ j, x.issued = some j → exec i s = .next (s.locationFaulted p .collision code)) ∧
      (∀ c : Command, x.issued = none → c.code = code → exec i s =
        .next { s with
          windows := s.windows.set p
            { x with issued := some { command := c, args := x.args }, command := code, counter := x.counter + 1 } }) ∧
      (x.issued = none → (∀ c : Command, c.code ≠ code) → exec i s =
        .next { s with
          windows := s.windows.set p
            { x with counter := x.counter + 1, response := 0x20, results := {}, lastFault := code ++ (0x20 : Byte) }
          events := s.events.set p { s.events.get p with pending := (s.events.get p).pending ||| 1#12 }
          reports := s.reported p .fault })

/-- R145: a write to ARG0 to ARG5 is stored and read back; a write to a read-only location or to an absent offset is ignored; a
write at the offset of a location with a behaviour of its own is that location's write (log 2). With it what every location of 10.1 but
TOP_CAUSE reads as (R143, R145, R12, R76, R77, R117, R139, R140, R150); of the positions 10.1 gives no content nothing is said
(log 27). -/
def Obligations.WindowLocationsAreWrittenAndRead : Prop :=
  ∀ (s : State) (p : Port) (off : BitVec 6) (w : Word), s.porAsserted = false →
    let x := s.windows.get p
    let stored (a : Words6) : Host.Outcome State Fault Refusal :=
      .next { s with windows := s.windows.set p { x with args := a } }
    (off = 1 → exec (.registerWrite p off w) s = stored { x.args with w0 := w }) ∧
    (off = 2 → exec (.registerWrite p off w) s = stored { x.args with w1 := w }) ∧
    (off = 3 → exec (.registerWrite p off w) s = stored { x.args with w2 := w }) ∧
    (off = 4 → exec (.registerWrite p off w) s = stored { x.args with w3 := w }) ∧
    (off = 5 → exec (.registerWrite p off w) s = stored { x.args with w4 := w }) ∧
    (off = 6 → exec (.registerWrite p off w) s = stored { x.args with w5 := w }) ∧
    (6 < off.toNat → plainOffset off = true → exec (.registerWrite p off w) s = .next s) ∧
    exec (.registerWrite p 0x10 w) s = exec (.eventPending p w) s ∧
    exec (.registerWrite p 0x11 w) s = exec (.eventEnable p w) s ∧
    exec (.registerWrite p 0x12 w) s = exec (.eventPriority p .low w) s ∧
    exec (.registerWrite p 0x13 w) s = exec (.eventPriority p .high w) s ∧
    exec (.registerWrite p 0x14 w) s = exec (.threshold p w) s ∧
    exec (.registerWrite p 0x20 w) s = exec (.fillData p w) s ∧
    exec (.registerWrite p 0x21 w) s = exec (.fillPointer p w) s ∧
    exec (.registerWrite p 0x25 w) s = exec (.readPointer p w) s ∧
    (∀ t, exec (.registerWrite p off w) s = .next t → 1 ≤ off.toNat → off.toNat ≤ 6 → t.readWindow p off = w) ∧
    let r := s.ports.get p
    let u := s.events.get p
    let status := (s.readWindow p 0x08).toNat
    let summary := (s.readWindow p 0x16).toNat
    s.readWindow p 0x00 = (0 : Byte) ++ x.command ∧
    s.readWindow p 0x01 = x.args.w0 ∧ s.readWindow p 0x02 = x.args.w1 ∧ s.readWindow p 0x03 = x.args.w2 ∧
    s.readWindow p 0x04 = x.args.w3 ∧ s.readWindow p 0x05 = x.args.w4 ∧ s.readWindow p 0x06 = x.args.w5 ∧
    status % 2 = (if x.issued.isSome then 1 else 0) ∧
    status / 2 % 4 = (match r.state with | .offline => 0 | .attached => 1 | .isolated => 2) ∧
    status / 8 % 4 = (if r.state = .attached then (if r.score ≤ 95 then 0 else if r.score ≤ 127 then 1 else 2) else 3) ∧
    status / 32 % 8 =
      (match x.cause with | .none => 0 | .powerOn => 1 | .deviceReset => 2 | .portReset => 3 | .isolated => 4) ∧
    status / 256 % 16 = x.counter.toNat ∧
    status / 4096 % 2 = (if s.device.state = .run then 1 else 0) ∧
    (s.readWindow p 0x09).extractLsb' 0 8 = x.response ∧
    s.readWindow p 0x0A = x.results.w0 ∧ s.readWindow p 0x0B = x.results.w1 ∧ s.readWindow p 0x0C = x.results.w2 ∧
    s.readWindow p 0x0D = x.results.w3 ∧ s.readWindow p 0x0E = x.results.w4 ∧ s.readWindow p 0x0F = x.results.w5 ∧
    (∀ n, n < 12 → (s.readWindow p 0x10).getLsbD n = u.pending.getLsbD n) ∧
    (∀ n, (s.readWindow p 0x11).getLsbD n = u.enable.getLsbD n) ∧
    (∀ n, (s.readWindow p 0x12).getLsbD n = (decide (n < 16) && u.priority.getLsbD n)) ∧
    (∀ n, (s.readWindow p 0x13).getLsbD n = u.priority.getLsbD (16 + n)) ∧
    (∀ n, (s.readWindow p 0x14).getLsbD n = u.threshold.getLsbD n) ∧
    ((s.queues.get p).length ≤ 64 → (s.completions.get p).length ≤ 4 →
      summary % 128 = (s.queues.get p).length ∧
      summary / 128 % 2 = (if (s.holds.get p).isSome then 1 else 0) ∧
      summary / 256 % 2 = (if (s.reservations.get p).isSome then 1 else 0) ∧
      summary / 512 % 8 = (s.completions.get p).length ∧
      (summary / 4096 % 2 = 1 ↔
        ∃ ch d b, (s.channels.get ch).defn = some d ∧ d.kind = .state ∧ d.subs.get p = some b ∧ b.new = true)) ∧
    s.readWindow p 0x17 = x.lastFault ∧
    s.readWindow p 0x18 = s.time.ticks.extractLsb' 0 16 ∧ s.readWindow p 0x19 = x.capture ∧
    s.readWindow p 0x21 = BitVec.ofNat 16 x.fillPointer ∧
    s.readWindow p 0x25 = BitVec.ofNat 16 (match s.holds.get p with | some h => h.pointer | none => 0) ∧
    (∀ t, exec (.readData p) s = .next t → (t.windows.get p).readData = s.readWindow p 0x24) ∧
    (off.toNat = 0x07 ∨ 0x1A ≤ off.toNat ∧ off.toNat ≤ 0x20 ∨ off.toNat = 0x22 ∨ off.toNat = 0x23 ∨ 0x26 ≤ off.toNat →
      s.readWindow p off = 0)

/-- R117: TICK_COUNT returns the low word and captures the high word, or returns the capture. The word read stands in `readData`
(log 12). -/
def Obligations.TickCountIsReadConsistently : Prop :=
  ∀ (s : State) (p : Port), s.porAsserted = false →
    let x := s.windows.get p
    exec (.tickCount p .low) s =
      .next { s with
        windows := s.windows.set p
          { x with capture := s.time.ticks.extractLsb' 16 16, readData := s.time.ticks.extractLsb' 0 16 } } ∧
    exec (.tickCount p .high) s = .next { s with windows := s.windows.set p { x with readData := x.capture } }

/-! ### Events -/

/-- R139 and R140: the event locations, bit by bit, in every port state. -/
def Obligations.EventLocationsAreWritten : Prop :=
  ∀ (s : State) (p : Port) (w : Word), s.porAsserted = false →
    let u := s.events.get p
    let wrote (v : EventUnit) : Host.Outcome State Fault Refusal := .next { s with events := s.events.set p v }
    (∃ v : BitVec 12, exec (.eventPending p w) s = wrote { u with pending := v } ∧
      ∀ n, n < 12 → v.getLsbD n = (u.pending.getLsbD n && !w.getLsbD n)) ∧
    (∃ v : BitVec 12, exec (.eventEnable p w) s = wrote { u with enable := v } ∧ ∀ n, n < 12 → v.getLsbD n = w.getLsbD n) ∧
    (∃ v : BitVec 24, exec (.eventPriority p .low w) s = wrote { u with priority := v } ∧
      ∀ n, n < 24 → v.getLsbD n = if n < 16 then w.getLsbD n else u.priority.getLsbD n) ∧
    (∃ v : BitVec 24, exec (.eventPriority p .high w) s = wrote { u with priority := v } ∧
      ∀ n, n < 24 → v.getLsbD n = if n < 16 then u.priority.getLsbD n else w.getLsbD (n - 16)) ∧
    ∃ v : BitVec 2, exec (.threshold p w) s = wrote { u with threshold := v } ∧ ∀ n, n < 2 → v.getLsbD n = w.getLsbD n

/-- R141 and R142: the interrupt line, and TOP_CAUSE, from the same condition; and a raise sets the one flag (R138), at the position
9.1 gives the event. -/
def Obligations.QualifyingEventsDriveTheLineAndTopCause : Prop :=
  ∀ (s : State) (p : Port), s.porAsserted = false →
    let u := s.events.get p
    let number (e : Event) : Nat := match e with
      | .fault => 0 | .score => 1 | .leaseLost => 2 | .grant => 3 | .completion => 4 | .queue => 5
      | .stateNew => 6 | .lost => 7 | .expired => 8 | .channel => 9 | .poolLow => 10 | .vote => 11
    let priority (e : Event) : Nat := (u.priority.toNat / 4 ^ number e) % 4
    let qualifies (e : Event) : Prop :=
      u.pending.getLsbD (number e) = true ∧ u.enable.getLsbD (number e) = true ∧ u.threshold.toNat ≤ priority e
    (s.interrupt p = true ↔ s.attached p = true ∧ ∃ e, qualifies e) ∧
    ((¬∃ e, qualifies e) → s.readWindow p 0x15 = 0xFFFF) ∧
    (∀ e, qualifies e → (∀ e', qualifies e' → priority e' < priority e ∨ priority e' = priority e ∧ number e ≤ number e') →
      s.readWindow p 0x15 = BitVec.ofNat 16 (number e + 256 * priority e)) ∧
    ∀ e, s.raise p e = { s with events := s.events.set p { u with pending := u.pending ||| BitVec.twoPow 12 (number e) } }

/-! ### Port contexts -/

/-- R134: the port-reset event in every port state. -/
def Obligations.PortResetPurgesOrDiscards : Prop :=
  ∀ (s : State) (p : Port), s.porAsserted = false →
    let purged := s.purge p
    let left : State := if s.attached p
      then { purged with ports := purged.ports.set p { purged.ports.get p with state := .offline } }
      else
        { s with
          windows := s.windows.set p
            (match (s.windows.get p).issued with
            | none => s.windows.get p
            | some _ => { s.windows.get p with issued := none, response := 0x1E, results := {} }) }
    exec (.portReset p) s = .next
      { left with
        events := left.events.set p { pending := 0, enable := 0, priority := 0, threshold := 0 }
        windows := left.windows.set p { left.windows.get p with capture := 0, cause := .portReset, counter := 0 } }

/-- R132 step by step, with R21, R80, R95, R62, R112, R156, R151 and R44: what a purge takes from its port, what becomes of it, and
that everything else stays. The locks' clause needs R97's agreement, for the purged port alone, of its wait record and the waiter
lists. The end of the port's reports is R128's, in the model's list (logs 4 and 26). -/
def Obligations.PurgeTakesEveryHolding : Prop :=
  ∀ (s : State) (p : Port), let t := s.purge p
    let held := ((s.reservations.get p).toList ++ (s.queues.get p).map (fun e => e.slot)) ++
      (s.holds.get p).toList.map fun h => h.entry.slot
    let released := s.releaseAll held
    let behind (l : LockId) : List Port := (s.locks.get l).waiters.filter fun q => decide (q ≠ p)
    let holds (l : LockId) : Bool := (s.locks.get l).grant.any fun g => decide (g.holder = p)
    let granted (q : Port) : Bool := (indices 16).any fun l => holds l && decide ((behind l).head? = some q)
    t.windows = s.windows.set p
      (match (s.windows.get p).issued with
      | none => { s.windows.get p with fillPointer := 0 }
      | some _ => { s.windows.get p with issued := none, response := 0x1E, results := {}, fillPointer := 0 }) ∧
    t.reservations = s.reservations.set p none ∧ t.queues = s.queues.set p [] ∧
    (∀ q, t.holds.get q = if q = p then none else s.holds.get q) ∧
    t.slots = released.slots ∧ t.freeList = released.freeList ∧ t.due = released.due ∧
    (∀ q, t.ports.get q =
      if q = p then { released.ports.get q with credits := 4, vote := false } else released.ports.get q) ∧
    (∀ ch, t.channels.get ch = { s.channels.get ch with
      defn := (s.channels.get ch).defn.map fun d =>
        { d with subs := d.subs.set p ((d.subs.get p).map fun b => { b with new := false }) } }) ∧
    t.publishQueue = s.publishQueue.map (fun r => if r.publisher = p then { r with orphaned := true } else r) ∧
    t.engine = s.engine.map (fun f =>
      if f.request.publisher = p then { f with request := { f.request with orphaned := true } } else f) ∧
    t.completions = s.completions.set p [] ∧
    ((∀ l, p ∈ (s.locks.get l).waiters → s.waits.get p = some l) →
      (∀ l, t.locks.get l =
        let k := { s.locks.get l with waiters := behind l }
        if holds l then
          match behind l with
          | [] => { k with grant := none }
          | w :: ws =>
            { k with
              waiters := ws
              lastIssued := k.lastIssued + 1
              grant := some
                { holder := w, number := k.lastIssued + 1
                  lease := if k.leaseSetting = 0 then none else some k.leaseSetting } }
        else k) ∧
      (∀ q, t.waits.get q = if q = p ∨ granted q = true then none else s.waits.get q) ∧
      ∀ q, q ≠ p → t.events.get q = { s.events.get q with
        pending := (s.events.get q).pending ||| if granted q then 8#12 else 0#12 }) ∧
    t.events.get p = { s.events.get p with pending := 0 } ∧
    t.device = (if s.device.state = .run ∧ t.voteCount < s.device.quorum
      then { s.device with authorization := 0 } else s.device) ∧
    t.reports = s.reports.filter (fun r => decide (r.port ≠ p)) ∧
    t.payload = s.payload ∧ t.geometry = s.geometry ∧ t.watermark = s.watermark ∧ t.time = s.time ∧
    t.pending = s.pending ∧ t.porAsserted = s.porAsserted

/-- R128, R129 and R131: a report is taken against the port's state at that moment; isolation in the same event. That the report
stands in the list of reports is DEDUCED (log 4). -/
def Obligations.ReportsMoveTheFaultScore : Prop :=
  ∀ (s : State) (p : Port) (k : ReportKind),
    s.porAsserted = false → { port := p, kind := k : Report } ∈ s.reports →
    let u : State := { s with reports := s.reports.erase { port := p, kind := k } }
    let r := s.ports.get p
    let scored (n : Nat) : State := { u with ports := s.ports.set p { r with score := n } }
    (s.attached p = false → exec (.faultScoreReport p k) s = .next u) ∧
    (s.attached p = true → k = .refusal → exec (.faultScoreReport p k) s = .next u) ∧
    (s.attached p = true → k = .success → exec (.faultScoreReport p k) s = .next (scored (r.score - 1))) ∧
    (s.attached p = true → k = .fault ∨ k = .leaseExpiry →
      (r.score + 8 < 256 → exec (.faultScoreReport p k) s =
        .next (if r.score < 96 ∧ 96 ≤ r.score + 8 ∨ r.score < 128 ∧ 128 ≤ r.score + 8
          then (scored (r.score + 8)).raise p .score else scored (r.score + 8))) ∧
      (256 ≤ r.score + 8 → exec (.faultScoreReport p k) s =
        .next (({ u with
          ports := s.ports.set p { r with score := 255, state := .isolated, coolDown := 2048 }
          windows := s.windows.set p { s.windows.get p with cause := .isolated } } : State).purge p)))

/-- R133 and R157: a base tick that is due at the port context unit, taken for all its ports in one event, and one that is due at
device control. That they are due until their rows come is DEDUCED (log 7). -/
def Obligations.CoolDownAndAuthorizationTakeTheirTick : Prop :=
  ∀ s : State, s.porAsserted = false →
    (∀ p, p ∈ s.due.ports → ∃ t, exec (.coolDownExpiry p) s = .next t ∧
      (∀ q, t.ports.get q =
        if (s.ports.get q).state = .isolated then { s.ports.get q with coolDown := (s.ports.get q).coolDown - 1 }
        else s.ports.get q) ∧
      t = { s with ports := t.ports, due := { s.due with ports := [] } }) ∧
    (s.due.authorization = true →
      let u : State := { s with due := { s.due with authorization := false } }
      exec .authorizationExpiry s =
        .next (if s.device.state = .run ∧ s.device.quorum ≤ s.voteCount then
            (if s.device.authorization + 1 < 4096
              then { u with device := { s.device with authorization := s.device.authorization + 1 } }
              else u.deviceReset)
          else u))

/-! ### Time -/

/-- R115, R117, R118, R119, R103, R133 and R157: a REFCLK cycle advances the count or completes the period with a base tick. The tick
takes every lifetime that does not end one on; the lock table, the port context unit and device control take it at once where it ends
no countdown of theirs, and where it ends one it is due there whole (DEDUCED, log 7). That the row BASE_TICK changes nothing before
the period is complete is the model's choice (log 1); so is what a base tick does while something of the last one is still due: it acts
as if the due rows had come first, and ends where the last of them resets the device (log 8). -/
def Obligations.TickAdvancesEveryCountdown : Prop :=
  ∀ s : State, s.porAsserted = false →
    (s.time.count + 1 < s.time.prescale →
      exec .refclkCycle s = .next { s with time := { s.time with count := s.time.count + 1 } } ∧ exec .baseTick s = .next s) ∧
    (s.time.prescale ≤ s.time.count + 1 → exec .refclkCycle s = exec .baseTick s) ∧
    (s.time.prescale ≤ s.time.count + 1 → s.due = Due.none →
      let lower (n : Option Nat) : Option Nat := n.map fun k => if 1 < k then k - 1 else k
      let quorate : Prop := s.device.state = .run ∧ s.device.quorum ≤ s.voteCount
      ∃ t, exec .baseTick s = .next t ∧
        t.time = { s.time with count := 0, ticks := s.time.ticks + 1 } ∧
        (∀ i, t.slots.get i =
          match (s.slots.get i).use with
          | .message m => { s.slots.get i with use := .message { m with lifetime := lower m.lifetime } }
          | _ => s.slots.get i) ∧
        ((∀ l g n, (s.locks.get l).grant = some g → g.lease = some n → 1 < n) → ∀ l, t.locks.get l =
          { s.locks.get l with grant := (s.locks.get l).grant.map fun g => { g with lease := g.lease.map fun n => n - 1 } }) ∧
        ((∃ l g n, (s.locks.get l).grant = some g ∧ g.lease = some n ∧ n ≤ 1) → t.locks = s.locks) ∧
        ((∀ p, (s.ports.get p).state = .isolated → (s.ports.get p).coolDown ≠ 1) → ∀ p, t.ports.get p =
          if (s.ports.get p).state = .isolated then { s.ports.get p with coolDown := (s.ports.get p).coolDown - 1 }
          else s.ports.get p) ∧
        ((∃ p, (s.ports.get p).state = .isolated ∧ (s.ports.get p).coolDown = 1) → t.ports = s.ports) ∧
        (quorate → s.device.authorization + 1 < 4096 →
          t.device = { s.device with authorization := s.device.authorization + 1 }) ∧
        (¬quorate ∨ 4096 ≤ s.device.authorization + 1 → t.device = s.device) ∧
        (∀ i, i ∈ t.due.slots ↔ ∃ m n, s.message? i = some m ∧ m.lifetime = some n ∧ n ≤ 1) ∧
        (∀ l, l ∈ t.due.locks ↔ ∃ g n, (s.locks.get l).grant = some g ∧ g.lease = some n ∧ n ≤ 1) ∧
        (∀ p, p ∈ t.due.ports ↔ (s.ports.get p).state = .isolated ∧ (s.ports.get p).coolDown = 1) ∧
        (t.due.authorization = true ↔ quorate ∧ 4096 ≤ s.device.authorization + 1) ∧
        t = { s with
          time := t.time, slots := t.slots, locks := t.locks, ports := t.ports, device := t.device, due := t.due }) ∧
    (s.time.prescale ≤ s.time.count + 1 →
      (∀ i rest t, s.due.slots = i :: rest → i ∉ rest → exec (.lifetimeExpiry i) s = .next t →
        exec .baseTick s = exec .baseTick t) ∧
      (∀ l t, s.due.slots = [] → l ∈ s.due.locks → exec (.leaseExpiry l) s = .next t → exec .baseTick s = exec .baseTick t) ∧
      (∀ p t, s.due.slots = [] → s.due.locks = [] → p ∈ s.due.ports → exec (.coolDownExpiry p) s = .next t →
        exec .baseTick s = exec .baseTick t) ∧
      ∀ t, s.due = { Due.none with authorization := true } → exec .authorizationExpiry s = .next t → exec .baseTick s =
        if s.device.state = .run ∧ s.device.quorum ≤ s.voteCount ∧ 4096 ≤ s.device.authorization + 1 then .next t
        else exec .baseTick t)

/-- R120, R63, R64, R92 and R71: the expiry of a slot by its state. A PENDING request leaves the queue with its record; entries of a
SPREADING or LIVE slot leave every delivery queue, counted expired; its current value is withdrawn, each set NEW flag counted expired;
read holds keep it. Everything else stays. That the expiry is due until its row comes is DEDUCED (log 7). -/
def Obligations.LifetimeExpiryWithdrawsTheMessage : Prop :=
  ∀ (s : State) (i : SlotId) (m : Message) (n : Nat),
    s.porAsserted = false → i ∈ s.due.slots → s.message? i = some m → m.lifetime = some n →
    let u : State := { s with due := { s.due with slots := s.due.slots.filter fun j => decide (j ≠ i) } }
    (∀ r before after, m.phase = .pending → s.publishQueue = before ++ r :: after → r.slot = i →
      (∀ x ∈ before ++ after, x.slot ≠ i) →
      let v : State := { u with publishQueue := before ++ after }
      let record : Completion :=
        { channel := m.channel, seq := m.seq, outcome := .expired
          counts := { placed := 0, filtered := 0, offline := 0, dropped := 0 } }
      let w : State := if r.orphaned then v
        else ({ v with completions := v.completions.set r.publisher (v.completions.get r.publisher ++ [record]) } : State).raise
          r.publisher .completion
      exec (.lifetimeExpiry i) s = .next (w.release i)) ∧
    (m.phase = .spreading ∨ m.phase = .live → ∃ t, exec (.lifetimeExpiry i) s = .next t ∧
      let gone (p : Port) : Bool := (s.queues.get p).any fun e => decide (e.slot = i)
      let withdrawn : Bool := (s.defn? m.channel).any fun d => decide (d.current = some i)
      let unread (p : Port) : Bool := withdrawn && (s.sub? m.channel p).any fun b => b.new
      let more (n : Nat) : Nat := if n < 65535 then n + 1 else 65535
      let expiring : State := { u with
        slots := s.slots.set i { s.slots.get i with use := .message { m with phase := .expired, lifetime := none } } }
      let entries (p : Port) : Nat := (s.queues.get p).countP fun e => decide (e.slot = i)
      let released := expiring.releaseAll
        (List.replicate (entries .A + entries .B + entries .C + entries .D + if withdrawn then 1 else 0) i)
      (∀ p, t.queues.get p = (s.queues.get p).filter fun e => decide (e.slot ≠ i)) ∧
      t.slots = released.slots ∧ t.freeList = released.freeList ∧ t.ports = released.ports ∧ t.due = released.due ∧
      ((t.slots.get i).use = .free ∨ (t.slots.get i).use = .message { m with phase := .expired, lifetime := none }) ∧
      (∀ j, j ≠ i → t.slots.get j = s.slots.get j) ∧
      t.engine = s.engine.map (fun f =>
        if m.phase = .spreading ∧ f.request.slot = i then { f with expired := true, cursor := .finish } else f) ∧
      (∀ ch, ch ≠ m.channel ∨ s.defn? ch = none → t.channels.get ch = s.channels.get ch) ∧
      (∀ d, s.defn? m.channel = some d → ∃ subs : PerPort (Option Subscription),
        t.channels.get m.channel = { s.channels.get m.channel with
          defn := some { d with current := if withdrawn then none else d.current, subs := subs } } ∧
        ∀ p, subs.get p = (d.subs.get p).map fun b =>
          let n := if gone p then more b.expired else b.expired
          { b with expired := if unread p then more n else n, new := if withdrawn then false else b.new }) ∧
      (∀ p, t.events.get p = { s.events.get p with
        pending := (s.events.get p).pending ||| if gone p || unread p then 256#12 else 0#12 }) ∧
      t = { s with
        queues := t.queues, slots := t.slots, freeList := t.freeList, ports := t.ports, due := t.due, engine := t.engine
        channels := t.channels, events := t.events })

/-! ### Invariants -/

/-- Power-on reset's state meets every invariant below. -/
def Obligations.ResetStateIsSound : Prop :=
  State.reset.PayloadCanonical ∧ State.reset.InRange ∧ State.reset.LocksInOrder ∧ State.reset.CreditsBounded ∧
  State.reset.AbsentHoldNothing ∧ State.reset.QueuesWithinLimits ∧ State.reset.WithinGeometry ∧ State.reset.PoolSound

/-- Every step keeps the payload store in its canonical form, within 8192 bytes. -/
def Obligations.EveryStepKeepsThePayloadCanonical : Prop :=
  ∀ s t : State, s.PayloadCanonical → step s = .next t → t.PayloadCanonical

/-- Every step keeps settings, scores, cool-downs and the authorization counter in the ranges of the rules. -/
def Obligations.EveryStepKeepsSettingsInRange : Prop :=
  ∀ s t : State, s.InRange → step s = .next t → t.InRange

/-- Every step keeps lock records, waiter lists and wait records in agreement, at ATTACHED ports only (R96, R97, R112). -/
def Obligations.EveryStepKeepsTheLocksInOrder : Prop :=
  ∀ s t : State, s.LocksInOrder → step s = .next t → t.LocksInOrder

/-- Every step keeps each port's credits, free and in use, within its 4 (R49), and what is absent ports' away from them (R132), reports
included (R128, R125; log 26). -/
def Obligations.EveryStepKeepsCreditsAndAbsentPorts : Prop :=
  ∀ s t : State, s.AbsentHoldNothing → s.CreditsBounded → step s = .next t → t.AbsentHoldNothing ∧ t.CreditsBounded

/-- Every step keeps the delivery queues and the publish queue within their limits (R68, R50). -/
def Obligations.EveryStepKeepsQueuesWithinLimits : Prop :=
  ∀ s t : State, s.QueuesWithinLimits → step s = .next t → t.QueuesWithinLimits

/-- Every step keeps slot indices, lengths and pointers within the geometry, and CONFIG without traffic. -/
def Obligations.EveryStepKeepsWithinTheGeometry : Prop :=
  ∀ s t : State, s.WithinGeometry → step s = .next t → t.WithinGeometry

/-- Every step keeps each slot's count equal to its holders, the free list exact, and every account equal to its slots (R4, R7, R15).
-/
def Obligations.EveryStepKeepsThePoolSound : Prop :=
  ∀ s t : State, s.WithinGeometry → s.PoolSound → step s = .next t → t.PoolSound

/-- Within the geometry no step stops the model: neither at the payload store's bound (log 17) nor on an empty queue, where the block
idles (log 10). -/
def Obligations.NoStepStopsWithinTheGeometry : Prop :=
  ∀ s : State, s.WithinGeometry → ∃ t, step s = .next t
end

