-- ==== Sys2Proof/Laws/State.lean ====
section
/-! SUPPORT. One lemma for each field and each update of the state: what the field is after it. -/

namespace Sys2Proof.Machine

set_option Elab.async false

variable (s : State)

/-! ### updWindow -/

@[simp] theorem State.updWindow_pending (p : Port) (f : Window → Window) : (s.updWindow p f).pending = s.pending := rfl
@[simp] theorem State.updWindow_porAsserted (p : Port) (f : Window → Window) :
    (s.updWindow p f).porAsserted = s.porAsserted := rfl
@[simp] theorem State.updWindow_geometry (p : Port) (f : Window → Window) : (s.updWindow p f).geometry = s.geometry := rfl
@[simp] theorem State.updWindow_slots (p : Port) (f : Window → Window) : (s.updWindow p f).slots = s.slots := rfl
@[simp] theorem State.updWindow_payload (p : Port) (f : Window → Window) : (s.updWindow p f).payload = s.payload := rfl
@[simp] theorem State.updWindow_freeList (p : Port) (f : Window → Window) : (s.updWindow p f).freeList = s.freeList := rfl
@[simp] theorem State.updWindow_reservations (p : Port) (f : Window → Window) :
    (s.updWindow p f).reservations = s.reservations := rfl
@[simp] theorem State.updWindow_watermark (p : Port) (f : Window → Window) : (s.updWindow p f).watermark = s.watermark := rfl
@[simp] theorem State.updWindow_channels (p : Port) (f : Window → Window) : (s.updWindow p f).channels = s.channels := rfl
@[simp] theorem State.updWindow_publishQueue (p : Port) (f : Window → Window) :
    (s.updWindow p f).publishQueue = s.publishQueue := rfl
@[simp] theorem State.updWindow_engine (p : Port) (f : Window → Window) : (s.updWindow p f).engine = s.engine := rfl
@[simp] theorem State.updWindow_completions (p : Port) (f : Window → Window) :
    (s.updWindow p f).completions = s.completions := rfl
@[simp] theorem State.updWindow_queues (p : Port) (f : Window → Window) : (s.updWindow p f).queues = s.queues := rfl
@[simp] theorem State.updWindow_holds (p : Port) (f : Window → Window) : (s.updWindow p f).holds = s.holds := rfl
@[simp] theorem State.updWindow_locks (p : Port) (f : Window → Window) : (s.updWindow p f).locks = s.locks := rfl
@[simp] theorem State.updWindow_waits (p : Port) (f : Window → Window) : (s.updWindow p f).waits = s.waits := rfl
@[simp] theorem State.updWindow_time (p : Port) (f : Window → Window) : (s.updWindow p f).time = s.time := rfl
@[simp] theorem State.updWindow_due (p : Port) (f : Window → Window) : (s.updWindow p f).due = s.due := rfl
@[simp] theorem State.updWindow_ports (p : Port) (f : Window → Window) : (s.updWindow p f).ports = s.ports := rfl
@[simp] theorem State.updWindow_reports (p : Port) (f : Window → Window) : (s.updWindow p f).reports = s.reports := rfl
@[simp] theorem State.updWindow_events (p : Port) (f : Window → Window) : (s.updWindow p f).events = s.events := rfl
@[simp] theorem State.updWindow_windows (p : Port) (f : Window → Window) :
    (s.updWindow p f).windows = s.windows.modify p f := rfl
@[simp] theorem State.updWindow_device (p : Port) (f : Window → Window) : (s.updWindow p f).device = s.device := rfl

/-! ### updPort -/

@[simp] theorem State.updPort_pending (p : Port) (f : PortRecord → PortRecord) : (s.updPort p f).pending = s.pending := rfl
@[simp] theorem State.updPort_porAsserted (p : Port) (f : PortRecord → PortRecord) :
    (s.updPort p f).porAsserted = s.porAsserted := rfl
@[simp] theorem State.updPort_geometry (p : Port) (f : PortRecord → PortRecord) :
    (s.updPort p f).geometry = s.geometry := rfl
@[simp] theorem State.updPort_slots (p : Port) (f : PortRecord → PortRecord) : (s.updPort p f).slots = s.slots := rfl
@[simp] theorem State.updPort_payload (p : Port) (f : PortRecord → PortRecord) : (s.updPort p f).payload = s.payload := rfl
@[simp] theorem State.updPort_freeList (p : Port) (f : PortRecord → PortRecord) :
    (s.updPort p f).freeList = s.freeList := rfl
@[simp] theorem State.updPort_reservations (p : Port) (f : PortRecord → PortRecord) :
    (s.updPort p f).reservations = s.reservations := rfl
@[simp] theorem State.updPort_watermark (p : Port) (f : PortRecord → PortRecord) :
    (s.updPort p f).watermark = s.watermark := rfl
@[simp] theorem State.updPort_channels (p : Port) (f : PortRecord → PortRecord) :
    (s.updPort p f).channels = s.channels := rfl
@[simp] theorem State.updPort_publishQueue (p : Port) (f : PortRecord → PortRecord) :
    (s.updPort p f).publishQueue = s.publishQueue := rfl
@[simp] theorem State.updPort_engine (p : Port) (f : PortRecord → PortRecord) : (s.updPort p f).engine = s.engine := rfl
@[simp] theorem State.updPort_completions (p : Port) (f : PortRecord → PortRecord) :
    (s.updPort p f).completions = s.completions := rfl
@[simp] theorem State.updPort_queues (p : Port) (f : PortRecord → PortRecord) : (s.updPort p f).queues = s.queues := rfl
@[simp] theorem State.updPort_holds (p : Port) (f : PortRecord → PortRecord) : (s.updPort p f).holds = s.holds := rfl
@[simp] theorem State.updPort_locks (p : Port) (f : PortRecord → PortRecord) : (s.updPort p f).locks = s.locks := rfl
@[simp] theorem State.updPort_waits (p : Port) (f : PortRecord → PortRecord) : (s.updPort p f).waits = s.waits := rfl
@[simp] theorem State.updPort_time (p : Port) (f : PortRecord → PortRecord) : (s.updPort p f).time = s.time := rfl
@[simp] theorem State.updPort_due (p : Port) (f : PortRecord → PortRecord) : (s.updPort p f).due = s.due := rfl
@[simp] theorem State.updPort_ports (p : Port) (f : PortRecord → PortRecord) :
    (s.updPort p f).ports = s.ports.modify p f := rfl
@[simp] theorem State.updPort_reports (p : Port) (f : PortRecord → PortRecord) : (s.updPort p f).reports = s.reports := rfl
@[simp] theorem State.updPort_events (p : Port) (f : PortRecord → PortRecord) : (s.updPort p f).events = s.events := rfl
@[simp] theorem State.updPort_windows (p : Port) (f : PortRecord → PortRecord) : (s.updPort p f).windows = s.windows := rfl
@[simp] theorem State.updPort_device (p : Port) (f : PortRecord → PortRecord) : (s.updPort p f).device = s.device := rfl

/-! ### updEvents -/

@[simp] theorem State.updEvents_pending (p : Port) (f : EventUnit → EventUnit) : (s.updEvents p f).pending = s.pending := rfl
@[simp] theorem State.updEvents_porAsserted (p : Port) (f : EventUnit → EventUnit) :
    (s.updEvents p f).porAsserted = s.porAsserted := rfl
@[simp] theorem State.updEvents_geometry (p : Port) (f : EventUnit → EventUnit) :
    (s.updEvents p f).geometry = s.geometry := rfl
@[simp] theorem State.updEvents_slots (p : Port) (f : EventUnit → EventUnit) : (s.updEvents p f).slots = s.slots := rfl
@[simp] theorem State.updEvents_payload (p : Port) (f : EventUnit → EventUnit) : (s.updEvents p f).payload = s.payload := rfl
@[simp] theorem State.updEvents_freeList (p : Port) (f : EventUnit → EventUnit) :
    (s.updEvents p f).freeList = s.freeList := rfl
@[simp] theorem State.updEvents_reservations (p : Port) (f : EventUnit → EventUnit) :
    (s.updEvents p f).reservations = s.reservations := rfl
@[simp] theorem State.updEvents_watermark (p : Port) (f : EventUnit → EventUnit) :
    (s.updEvents p f).watermark = s.watermark := rfl
@[simp] theorem State.updEvents_channels (p : Port) (f : EventUnit → EventUnit) :
    (s.updEvents p f).channels = s.channels := rfl
@[simp] theorem State.updEvents_publishQueue (p : Port) (f : EventUnit → EventUnit) :
    (s.updEvents p f).publishQueue = s.publishQueue := rfl
@[simp] theorem State.updEvents_engine (p : Port) (f : EventUnit → EventUnit) : (s.updEvents p f).engine = s.engine := rfl
@[simp] theorem State.updEvents_completions (p : Port) (f : EventUnit → EventUnit) :
    (s.updEvents p f).completions = s.completions := rfl
@[simp] theorem State.updEvents_queues (p : Port) (f : EventUnit → EventUnit) : (s.updEvents p f).queues = s.queues := rfl
@[simp] theorem State.updEvents_holds (p : Port) (f : EventUnit → EventUnit) : (s.updEvents p f).holds = s.holds := rfl
@[simp] theorem State.updEvents_locks (p : Port) (f : EventUnit → EventUnit) : (s.updEvents p f).locks = s.locks := rfl
@[simp] theorem State.updEvents_waits (p : Port) (f : EventUnit → EventUnit) : (s.updEvents p f).waits = s.waits := rfl
@[simp] theorem State.updEvents_time (p : Port) (f : EventUnit → EventUnit) : (s.updEvents p f).time = s.time := rfl
@[simp] theorem State.updEvents_due (p : Port) (f : EventUnit → EventUnit) : (s.updEvents p f).due = s.due := rfl
@[simp] theorem State.updEvents_ports (p : Port) (f : EventUnit → EventUnit) : (s.updEvents p f).ports = s.ports := rfl
@[simp] theorem State.updEvents_reports (p : Port) (f : EventUnit → EventUnit) : (s.updEvents p f).reports = s.reports := rfl
@[simp] theorem State.updEvents_events (p : Port) (f : EventUnit → EventUnit) :
    (s.updEvents p f).events = s.events.modify p f := rfl
@[simp] theorem State.updEvents_windows (p : Port) (f : EventUnit → EventUnit) : (s.updEvents p f).windows = s.windows := rfl
@[simp] theorem State.updEvents_device (p : Port) (f : EventUnit → EventUnit) : (s.updEvents p f).device = s.device := rfl

/-! ### updSlot -/

@[simp] theorem State.updSlot_pending (i : SlotId) (f : Slot → Slot) : (s.updSlot i f).pending = s.pending := rfl
@[simp] theorem State.updSlot_porAsserted (i : SlotId) (f : Slot → Slot) : (s.updSlot i f).porAsserted = s.porAsserted := rfl
@[simp] theorem State.updSlot_geometry (i : SlotId) (f : Slot → Slot) : (s.updSlot i f).geometry = s.geometry := rfl
@[simp] theorem State.updSlot_slots (i : SlotId) (f : Slot → Slot) : (s.updSlot i f).slots = s.slots.modify i f := rfl
@[simp] theorem State.updSlot_payload (i : SlotId) (f : Slot → Slot) : (s.updSlot i f).payload = s.payload := rfl
@[simp] theorem State.updSlot_freeList (i : SlotId) (f : Slot → Slot) : (s.updSlot i f).freeList = s.freeList := rfl
@[simp] theorem State.updSlot_reservations (i : SlotId) (f : Slot → Slot) :
    (s.updSlot i f).reservations = s.reservations := rfl
@[simp] theorem State.updSlot_watermark (i : SlotId) (f : Slot → Slot) : (s.updSlot i f).watermark = s.watermark := rfl
@[simp] theorem State.updSlot_channels (i : SlotId) (f : Slot → Slot) : (s.updSlot i f).channels = s.channels := rfl
@[simp] theorem State.updSlot_publishQueue (i : SlotId) (f : Slot → Slot) :
    (s.updSlot i f).publishQueue = s.publishQueue := rfl
@[simp] theorem State.updSlot_engine (i : SlotId) (f : Slot → Slot) : (s.updSlot i f).engine = s.engine := rfl
@[simp] theorem State.updSlot_completions (i : SlotId) (f : Slot → Slot) : (s.updSlot i f).completions = s.completions := rfl
@[simp] theorem State.updSlot_queues (i : SlotId) (f : Slot → Slot) : (s.updSlot i f).queues = s.queues := rfl
@[simp] theorem State.updSlot_holds (i : SlotId) (f : Slot → Slot) : (s.updSlot i f).holds = s.holds := rfl
@[simp] theorem State.updSlot_locks (i : SlotId) (f : Slot → Slot) : (s.updSlot i f).locks = s.locks := rfl
@[simp] theorem State.updSlot_waits (i : SlotId) (f : Slot → Slot) : (s.updSlot i f).waits = s.waits := rfl
@[simp] theorem State.updSlot_time (i : SlotId) (f : Slot → Slot) : (s.updSlot i f).time = s.time := rfl
@[simp] theorem State.updSlot_due (i : SlotId) (f : Slot → Slot) : (s.updSlot i f).due = s.due := rfl
@[simp] theorem State.updSlot_ports (i : SlotId) (f : Slot → Slot) : (s.updSlot i f).ports = s.ports := rfl
@[simp] theorem State.updSlot_reports (i : SlotId) (f : Slot → Slot) : (s.updSlot i f).reports = s.reports := rfl
@[simp] theorem State.updSlot_events (i : SlotId) (f : Slot → Slot) : (s.updSlot i f).events = s.events := rfl
@[simp] theorem State.updSlot_windows (i : SlotId) (f : Slot → Slot) : (s.updSlot i f).windows = s.windows := rfl
@[simp] theorem State.updSlot_device (i : SlotId) (f : Slot → Slot) : (s.updSlot i f).device = s.device := rfl

/-! ### updChannel -/

@[simp] theorem State.updChannel_pending (ch : ChannelId) (f : Channel → Channel) :
    (s.updChannel ch f).pending = s.pending := rfl
@[simp] theorem State.updChannel_porAsserted (ch : ChannelId) (f : Channel → Channel) :
    (s.updChannel ch f).porAsserted = s.porAsserted := rfl
@[simp] theorem State.updChannel_geometry (ch : ChannelId) (f : Channel → Channel) :
    (s.updChannel ch f).geometry = s.geometry := rfl
@[simp] theorem State.updChannel_slots (ch : ChannelId) (f : Channel → Channel) : (s.updChannel ch f).slots = s.slots := rfl
@[simp] theorem State.updChannel_payload (ch : ChannelId) (f : Channel → Channel) :
    (s.updChannel ch f).payload = s.payload := rfl
@[simp] theorem State.updChannel_freeList (ch : ChannelId) (f : Channel → Channel) :
    (s.updChannel ch f).freeList = s.freeList := rfl
@[simp] theorem State.updChannel_reservations (ch : ChannelId) (f : Channel → Channel) :
    (s.updChannel ch f).reservations = s.reservations := rfl
@[simp] theorem State.updChannel_watermark (ch : ChannelId) (f : Channel → Channel) :
    (s.updChannel ch f).watermark = s.watermark := rfl
@[simp] theorem State.updChannel_channels (ch : ChannelId) (f : Channel → Channel) :
    (s.updChannel ch f).channels = s.channels.modify ch f := rfl
@[simp] theorem State.updChannel_publishQueue (ch : ChannelId) (f : Channel → Channel) :
    (s.updChannel ch f).publishQueue = s.publishQueue := rfl
@[simp] theorem State.updChannel_engine (ch : ChannelId) (f : Channel → Channel) :
    (s.updChannel ch f).engine = s.engine := rfl
@[simp] theorem State.updChannel_completions (ch : ChannelId) (f : Channel → Channel) :
    (s.updChannel ch f).completions = s.completions := rfl
@[simp] theorem State.updChannel_queues (ch : ChannelId) (f : Channel → Channel) :
    (s.updChannel ch f).queues = s.queues := rfl
@[simp] theorem State.updChannel_holds (ch : ChannelId) (f : Channel → Channel) : (s.updChannel ch f).holds = s.holds := rfl
@[simp] theorem State.updChannel_locks (ch : ChannelId) (f : Channel → Channel) : (s.updChannel ch f).locks = s.locks := rfl
@[simp] theorem State.updChannel_waits (ch : ChannelId) (f : Channel → Channel) : (s.updChannel ch f).waits = s.waits := rfl
@[simp] theorem State.updChannel_time (ch : ChannelId) (f : Channel → Channel) : (s.updChannel ch f).time = s.time := rfl
@[simp] theorem State.updChannel_due (ch : ChannelId) (f : Channel → Channel) : (s.updChannel ch f).due = s.due := rfl
@[simp] theorem State.updChannel_ports (ch : ChannelId) (f : Channel → Channel) : (s.updChannel ch f).ports = s.ports := rfl
@[simp] theorem State.updChannel_reports (ch : ChannelId) (f : Channel → Channel) :
    (s.updChannel ch f).reports = s.reports := rfl
@[simp] theorem State.updChannel_events (ch : ChannelId) (f : Channel → Channel) :
    (s.updChannel ch f).events = s.events := rfl
@[simp] theorem State.updChannel_windows (ch : ChannelId) (f : Channel → Channel) :
    (s.updChannel ch f).windows = s.windows := rfl
@[simp] theorem State.updChannel_device (ch : ChannelId) (f : Channel → Channel) :
    (s.updChannel ch f).device = s.device := rfl

/-! ### updDefn -/

@[simp] theorem State.updDefn_pending (ch : ChannelId) (f : ChannelDef → ChannelDef) :
    (s.updDefn ch f).pending = s.pending := rfl
@[simp] theorem State.updDefn_porAsserted (ch : ChannelId) (f : ChannelDef → ChannelDef) :
    (s.updDefn ch f).porAsserted = s.porAsserted := rfl
@[simp] theorem State.updDefn_geometry (ch : ChannelId) (f : ChannelDef → ChannelDef) :
    (s.updDefn ch f).geometry = s.geometry := rfl
@[simp] theorem State.updDefn_slots (ch : ChannelId) (f : ChannelDef → ChannelDef) : (s.updDefn ch f).slots = s.slots := rfl
@[simp] theorem State.updDefn_payload (ch : ChannelId) (f : ChannelDef → ChannelDef) :
    (s.updDefn ch f).payload = s.payload := rfl
@[simp] theorem State.updDefn_freeList (ch : ChannelId) (f : ChannelDef → ChannelDef) :
    (s.updDefn ch f).freeList = s.freeList := rfl
@[simp] theorem State.updDefn_reservations (ch : ChannelId) (f : ChannelDef → ChannelDef) :
    (s.updDefn ch f).reservations = s.reservations := rfl
@[simp] theorem State.updDefn_watermark (ch : ChannelId) (f : ChannelDef → ChannelDef) :
    (s.updDefn ch f).watermark = s.watermark := rfl
@[simp] theorem State.updDefn_channels (ch : ChannelId) (f : ChannelDef → ChannelDef) :
    (s.updDefn ch f).channels = s.channels.modify ch fun c => { c with defn := c.defn.map f } := rfl
@[simp] theorem State.updDefn_publishQueue (ch : ChannelId) (f : ChannelDef → ChannelDef) :
    (s.updDefn ch f).publishQueue = s.publishQueue := rfl
@[simp] theorem State.updDefn_engine (ch : ChannelId) (f : ChannelDef → ChannelDef) :
    (s.updDefn ch f).engine = s.engine := rfl
@[simp] theorem State.updDefn_completions (ch : ChannelId) (f : ChannelDef → ChannelDef) :
    (s.updDefn ch f).completions = s.completions := rfl
@[simp] theorem State.updDefn_queues (ch : ChannelId) (f : ChannelDef → ChannelDef) :
    (s.updDefn ch f).queues = s.queues := rfl
@[simp] theorem State.updDefn_holds (ch : ChannelId) (f : ChannelDef → ChannelDef) : (s.updDefn ch f).holds = s.holds := rfl
@[simp] theorem State.updDefn_locks (ch : ChannelId) (f : ChannelDef → ChannelDef) : (s.updDefn ch f).locks = s.locks := rfl
@[simp] theorem State.updDefn_waits (ch : ChannelId) (f : ChannelDef → ChannelDef) : (s.updDefn ch f).waits = s.waits := rfl
@[simp] theorem State.updDefn_time (ch : ChannelId) (f : ChannelDef → ChannelDef) : (s.updDefn ch f).time = s.time := rfl
@[simp] theorem State.updDefn_due (ch : ChannelId) (f : ChannelDef → ChannelDef) : (s.updDefn ch f).due = s.due := rfl
@[simp] theorem State.updDefn_ports (ch : ChannelId) (f : ChannelDef → ChannelDef) : (s.updDefn ch f).ports = s.ports := rfl
@[simp] theorem State.updDefn_reports (ch : ChannelId) (f : ChannelDef → ChannelDef) :
    (s.updDefn ch f).reports = s.reports := rfl
@[simp] theorem State.updDefn_events (ch : ChannelId) (f : ChannelDef → ChannelDef) :
    (s.updDefn ch f).events = s.events := rfl
@[simp] theorem State.updDefn_windows (ch : ChannelId) (f : ChannelDef → ChannelDef) :
    (s.updDefn ch f).windows = s.windows := rfl
@[simp] theorem State.updDefn_device (ch : ChannelId) (f : ChannelDef → ChannelDef) :
    (s.updDefn ch f).device = s.device := rfl

/-! ### updSub -/

@[simp] theorem State.updSub_pending (ch : ChannelId) (p : Port) (f : Subscription → Subscription) :
    (s.updSub ch p f).pending = s.pending := rfl
@[simp] theorem State.updSub_porAsserted (ch : ChannelId) (p : Port) (f : Subscription → Subscription) :
    (s.updSub ch p f).porAsserted = s.porAsserted := rfl
@[simp] theorem State.updSub_geometry (ch : ChannelId) (p : Port) (f : Subscription → Subscription) :
    (s.updSub ch p f).geometry = s.geometry := rfl
@[simp] theorem State.updSub_slots (ch : ChannelId) (p : Port) (f : Subscription → Subscription) :
    (s.updSub ch p f).slots = s.slots := rfl
@[simp] theorem State.updSub_payload (ch : ChannelId) (p : Port) (f : Subscription → Subscription) :
    (s.updSub ch p f).payload = s.payload := rfl
@[simp] theorem State.updSub_freeList (ch : ChannelId) (p : Port) (f : Subscription → Subscription) :
    (s.updSub ch p f).freeList = s.freeList := rfl
@[simp] theorem State.updSub_reservations (ch : ChannelId) (p : Port) (f : Subscription → Subscription) :
    (s.updSub ch p f).reservations = s.reservations := rfl
@[simp] theorem State.updSub_watermark (ch : ChannelId) (p : Port) (f : Subscription → Subscription) :
    (s.updSub ch p f).watermark = s.watermark := rfl
@[simp] theorem State.updSub_channels (ch : ChannelId) (p : Port) (f : Subscription → Subscription) :
    (s.updSub ch p f).channels = s.channels.modify ch fun c =>
      { c with defn := c.defn.map fun d => { d with subs := d.subs.modify p (Option.map f) } } := rfl
@[simp] theorem State.updSub_publishQueue (ch : ChannelId) (p : Port) (f : Subscription → Subscription) :
    (s.updSub ch p f).publishQueue = s.publishQueue := rfl
@[simp] theorem State.updSub_engine (ch : ChannelId) (p : Port) (f : Subscription → Subscription) :
    (s.updSub ch p f).engine = s.engine := rfl
@[simp] theorem State.updSub_completions (ch : ChannelId) (p : Port) (f : Subscription → Subscription) :
    (s.updSub ch p f).completions = s.completions := rfl
@[simp] theorem State.updSub_queues (ch : ChannelId) (p : Port) (f : Subscription → Subscription) :
    (s.updSub ch p f).queues = s.queues := rfl
@[simp] theorem State.updSub_holds (ch : ChannelId) (p : Port) (f : Subscription → Subscription) :
    (s.updSub ch p f).holds = s.holds := rfl
@[simp] theorem State.updSub_locks (ch : ChannelId) (p : Port) (f : Subscription → Subscription) :
    (s.updSub ch p f).locks = s.locks := rfl
@[simp] theorem State.updSub_waits (ch : ChannelId) (p : Port) (f : Subscription → Subscription) :
    (s.updSub ch p f).waits = s.waits := rfl
@[simp] theorem State.updSub_time (ch : ChannelId) (p : Port) (f : Subscription → Subscription) :
    (s.updSub ch p f).time = s.time := rfl
@[simp] theorem State.updSub_due (ch : ChannelId) (p : Port) (f : Subscription → Subscription) :
    (s.updSub ch p f).due = s.due := rfl
@[simp] theorem State.updSub_ports (ch : ChannelId) (p : Port) (f : Subscription → Subscription) :
    (s.updSub ch p f).ports = s.ports := rfl
@[simp] theorem State.updSub_reports (ch : ChannelId) (p : Port) (f : Subscription → Subscription) :
    (s.updSub ch p f).reports = s.reports := rfl
@[simp] theorem State.updSub_events (ch : ChannelId) (p : Port) (f : Subscription → Subscription) :
    (s.updSub ch p f).events = s.events := rfl
@[simp] theorem State.updSub_windows (ch : ChannelId) (p : Port) (f : Subscription → Subscription) :
    (s.updSub ch p f).windows = s.windows := rfl
@[simp] theorem State.updSub_device (ch : ChannelId) (p : Port) (f : Subscription → Subscription) :
    (s.updSub ch p f).device = s.device := rfl

/-! ### updLock -/

@[simp] theorem State.updLock_pending (l : LockId) (f : Lock → Lock) : (s.updLock l f).pending = s.pending := rfl
@[simp] theorem State.updLock_porAsserted (l : LockId) (f : Lock → Lock) : (s.updLock l f).porAsserted = s.porAsserted := rfl
@[simp] theorem State.updLock_geometry (l : LockId) (f : Lock → Lock) : (s.updLock l f).geometry = s.geometry := rfl
@[simp] theorem State.updLock_slots (l : LockId) (f : Lock → Lock) : (s.updLock l f).slots = s.slots := rfl
@[simp] theorem State.updLock_payload (l : LockId) (f : Lock → Lock) : (s.updLock l f).payload = s.payload := rfl
@[simp] theorem State.updLock_freeList (l : LockId) (f : Lock → Lock) : (s.updLock l f).freeList = s.freeList := rfl
@[simp] theorem State.updLock_reservations (l : LockId) (f : Lock → Lock) :
    (s.updLock l f).reservations = s.reservations := rfl
@[simp] theorem State.updLock_watermark (l : LockId) (f : Lock → Lock) : (s.updLock l f).watermark = s.watermark := rfl
@[simp] theorem State.updLock_channels (l : LockId) (f : Lock → Lock) : (s.updLock l f).channels = s.channels := rfl
@[simp] theorem State.updLock_publishQueue (l : LockId) (f : Lock → Lock) :
    (s.updLock l f).publishQueue = s.publishQueue := rfl
@[simp] theorem State.updLock_engine (l : LockId) (f : Lock → Lock) : (s.updLock l f).engine = s.engine := rfl
@[simp] theorem State.updLock_completions (l : LockId) (f : Lock → Lock) : (s.updLock l f).completions = s.completions := rfl
@[simp] theorem State.updLock_queues (l : LockId) (f : Lock → Lock) : (s.updLock l f).queues = s.queues := rfl
@[simp] theorem State.updLock_holds (l : LockId) (f : Lock → Lock) : (s.updLock l f).holds = s.holds := rfl
@[simp] theorem State.updLock_locks (l : LockId) (f : Lock → Lock) : (s.updLock l f).locks = s.locks.modify l f := rfl
@[simp] theorem State.updLock_waits (l : LockId) (f : Lock → Lock) : (s.updLock l f).waits = s.waits := rfl
@[simp] theorem State.updLock_time (l : LockId) (f : Lock → Lock) : (s.updLock l f).time = s.time := rfl
@[simp] theorem State.updLock_due (l : LockId) (f : Lock → Lock) : (s.updLock l f).due = s.due := rfl
@[simp] theorem State.updLock_ports (l : LockId) (f : Lock → Lock) : (s.updLock l f).ports = s.ports := rfl
@[simp] theorem State.updLock_reports (l : LockId) (f : Lock → Lock) : (s.updLock l f).reports = s.reports := rfl
@[simp] theorem State.updLock_events (l : LockId) (f : Lock → Lock) : (s.updLock l f).events = s.events := rfl
@[simp] theorem State.updLock_windows (l : LockId) (f : Lock → Lock) : (s.updLock l f).windows = s.windows := rfl
@[simp] theorem State.updLock_device (l : LockId) (f : Lock → Lock) : (s.updLock l f).device = s.device := rfl

/-! ### setReservation -/

@[simp] theorem State.setReservation_pending (p : Port) (r : Option SlotId) :
    (s.setReservation p r).pending = s.pending := rfl
@[simp] theorem State.setReservation_porAsserted (p : Port) (r : Option SlotId) :
    (s.setReservation p r).porAsserted = s.porAsserted := rfl
@[simp] theorem State.setReservation_geometry (p : Port) (r : Option SlotId) :
    (s.setReservation p r).geometry = s.geometry := rfl
@[simp] theorem State.setReservation_slots (p : Port) (r : Option SlotId) : (s.setReservation p r).slots = s.slots := rfl
@[simp] theorem State.setReservation_payload (p : Port) (r : Option SlotId) :
    (s.setReservation p r).payload = s.payload := rfl
@[simp] theorem State.setReservation_freeList (p : Port) (r : Option SlotId) :
    (s.setReservation p r).freeList = s.freeList := rfl
@[simp] theorem State.setReservation_reservations (p : Port) (r : Option SlotId) :
    (s.setReservation p r).reservations = s.reservations.set p r := rfl
@[simp] theorem State.setReservation_watermark (p : Port) (r : Option SlotId) :
    (s.setReservation p r).watermark = s.watermark := rfl
@[simp] theorem State.setReservation_channels (p : Port) (r : Option SlotId) :
    (s.setReservation p r).channels = s.channels := rfl
@[simp] theorem State.setReservation_publishQueue (p : Port) (r : Option SlotId) :
    (s.setReservation p r).publishQueue = s.publishQueue := rfl
@[simp] theorem State.setReservation_engine (p : Port) (r : Option SlotId) : (s.setReservation p r).engine = s.engine := rfl
@[simp] theorem State.setReservation_completions (p : Port) (r : Option SlotId) :
    (s.setReservation p r).completions = s.completions := rfl
@[simp] theorem State.setReservation_queues (p : Port) (r : Option SlotId) : (s.setReservation p r).queues = s.queues := rfl
@[simp] theorem State.setReservation_holds (p : Port) (r : Option SlotId) : (s.setReservation p r).holds = s.holds := rfl
@[simp] theorem State.setReservation_locks (p : Port) (r : Option SlotId) : (s.setReservation p r).locks = s.locks := rfl
@[simp] theorem State.setReservation_waits (p : Port) (r : Option SlotId) : (s.setReservation p r).waits = s.waits := rfl
@[simp] theorem State.setReservation_time (p : Port) (r : Option SlotId) : (s.setReservation p r).time = s.time := rfl
@[simp] theorem State.setReservation_due (p : Port) (r : Option SlotId) : (s.setReservation p r).due = s.due := rfl
@[simp] theorem State.setReservation_ports (p : Port) (r : Option SlotId) : (s.setReservation p r).ports = s.ports := rfl
@[simp] theorem State.setReservation_reports (p : Port) (r : Option SlotId) :
    (s.setReservation p r).reports = s.reports := rfl
@[simp] theorem State.setReservation_events (p : Port) (r : Option SlotId) : (s.setReservation p r).events = s.events := rfl
@[simp] theorem State.setReservation_windows (p : Port) (r : Option SlotId) :
    (s.setReservation p r).windows = s.windows := rfl
@[simp] theorem State.setReservation_device (p : Port) (r : Option SlotId) : (s.setReservation p r).device = s.device := rfl

/-! ### setQueue -/

@[simp] theorem State.setQueue_pending (p : Port) (q : List Entry) : (s.setQueue p q).pending = s.pending := rfl
@[simp] theorem State.setQueue_porAsserted (p : Port) (q : List Entry) : (s.setQueue p q).porAsserted = s.porAsserted := rfl
@[simp] theorem State.setQueue_geometry (p : Port) (q : List Entry) : (s.setQueue p q).geometry = s.geometry := rfl
@[simp] theorem State.setQueue_slots (p : Port) (q : List Entry) : (s.setQueue p q).slots = s.slots := rfl
@[simp] theorem State.setQueue_payload (p : Port) (q : List Entry) : (s.setQueue p q).payload = s.payload := rfl
@[simp] theorem State.setQueue_freeList (p : Port) (q : List Entry) : (s.setQueue p q).freeList = s.freeList := rfl
@[simp] theorem State.setQueue_reservations (p : Port) (q : List Entry) :
    (s.setQueue p q).reservations = s.reservations := rfl
@[simp] theorem State.setQueue_watermark (p : Port) (q : List Entry) : (s.setQueue p q).watermark = s.watermark := rfl
@[simp] theorem State.setQueue_channels (p : Port) (q : List Entry) : (s.setQueue p q).channels = s.channels := rfl
@[simp] theorem State.setQueue_publishQueue (p : Port) (q : List Entry) :
    (s.setQueue p q).publishQueue = s.publishQueue := rfl
@[simp] theorem State.setQueue_engine (p : Port) (q : List Entry) : (s.setQueue p q).engine = s.engine := rfl
@[simp] theorem State.setQueue_completions (p : Port) (q : List Entry) : (s.setQueue p q).completions = s.completions := rfl
@[simp] theorem State.setQueue_queues (p : Port) (q : List Entry) : (s.setQueue p q).queues = s.queues.set p q := rfl
@[simp] theorem State.setQueue_holds (p : Port) (q : List Entry) : (s.setQueue p q).holds = s.holds := rfl
@[simp] theorem State.setQueue_locks (p : Port) (q : List Entry) : (s.setQueue p q).locks = s.locks := rfl
@[simp] theorem State.setQueue_waits (p : Port) (q : List Entry) : (s.setQueue p q).waits = s.waits := rfl
@[simp] theorem State.setQueue_time (p : Port) (q : List Entry) : (s.setQueue p q).time = s.time := rfl
@[simp] theorem State.setQueue_due (p : Port) (q : List Entry) : (s.setQueue p q).due = s.due := rfl
@[simp] theorem State.setQueue_ports (p : Port) (q : List Entry) : (s.setQueue p q).ports = s.ports := rfl
@[simp] theorem State.setQueue_reports (p : Port) (q : List Entry) : (s.setQueue p q).reports = s.reports := rfl
@[simp] theorem State.setQueue_events (p : Port) (q : List Entry) : (s.setQueue p q).events = s.events := rfl
@[simp] theorem State.setQueue_windows (p : Port) (q : List Entry) : (s.setQueue p q).windows = s.windows := rfl
@[simp] theorem State.setQueue_device (p : Port) (q : List Entry) : (s.setQueue p q).device = s.device := rfl

/-! ### setHold -/

@[simp] theorem State.setHold_pending (p : Port) (h : Option Hold) : (s.setHold p h).pending = s.pending := rfl
@[simp] theorem State.setHold_porAsserted (p : Port) (h : Option Hold) : (s.setHold p h).porAsserted = s.porAsserted := rfl
@[simp] theorem State.setHold_geometry (p : Port) (h : Option Hold) : (s.setHold p h).geometry = s.geometry := rfl
@[simp] theorem State.setHold_slots (p : Port) (h : Option Hold) : (s.setHold p h).slots = s.slots := rfl
@[simp] theorem State.setHold_payload (p : Port) (h : Option Hold) : (s.setHold p h).payload = s.payload := rfl
@[simp] theorem State.setHold_freeList (p : Port) (h : Option Hold) : (s.setHold p h).freeList = s.freeList := rfl
@[simp] theorem State.setHold_reservations (p : Port) (h : Option Hold) :
    (s.setHold p h).reservations = s.reservations := rfl
@[simp] theorem State.setHold_watermark (p : Port) (h : Option Hold) : (s.setHold p h).watermark = s.watermark := rfl
@[simp] theorem State.setHold_channels (p : Port) (h : Option Hold) : (s.setHold p h).channels = s.channels := rfl
@[simp] theorem State.setHold_publishQueue (p : Port) (h : Option Hold) :
    (s.setHold p h).publishQueue = s.publishQueue := rfl
@[simp] theorem State.setHold_engine (p : Port) (h : Option Hold) : (s.setHold p h).engine = s.engine := rfl
@[simp] theorem State.setHold_completions (p : Port) (h : Option Hold) : (s.setHold p h).completions = s.completions := rfl
@[simp] theorem State.setHold_queues (p : Port) (h : Option Hold) : (s.setHold p h).queues = s.queues := rfl
@[simp] theorem State.setHold_holds (p : Port) (h : Option Hold) : (s.setHold p h).holds = s.holds.set p h := rfl
@[simp] theorem State.setHold_locks (p : Port) (h : Option Hold) : (s.setHold p h).locks = s.locks := rfl
@[simp] theorem State.setHold_waits (p : Port) (h : Option Hold) : (s.setHold p h).waits = s.waits := rfl
@[simp] theorem State.setHold_time (p : Port) (h : Option Hold) : (s.setHold p h).time = s.time := rfl
@[simp] theorem State.setHold_due (p : Port) (h : Option Hold) : (s.setHold p h).due = s.due := rfl
@[simp] theorem State.setHold_ports (p : Port) (h : Option Hold) : (s.setHold p h).ports = s.ports := rfl
@[simp] theorem State.setHold_reports (p : Port) (h : Option Hold) : (s.setHold p h).reports = s.reports := rfl
@[simp] theorem State.setHold_events (p : Port) (h : Option Hold) : (s.setHold p h).events = s.events := rfl
@[simp] theorem State.setHold_windows (p : Port) (h : Option Hold) : (s.setHold p h).windows = s.windows := rfl
@[simp] theorem State.setHold_device (p : Port) (h : Option Hold) : (s.setHold p h).device = s.device := rfl

/-! ### setWait -/

@[simp] theorem State.setWait_pending (p : Port) (l : Option LockId) : (s.setWait p l).pending = s.pending := rfl
@[simp] theorem State.setWait_porAsserted (p : Port) (l : Option LockId) : (s.setWait p l).porAsserted = s.porAsserted := rfl
@[simp] theorem State.setWait_geometry (p : Port) (l : Option LockId) : (s.setWait p l).geometry = s.geometry := rfl
@[simp] theorem State.setWait_slots (p : Port) (l : Option LockId) : (s.setWait p l).slots = s.slots := rfl
@[simp] theorem State.setWait_payload (p : Port) (l : Option LockId) : (s.setWait p l).payload = s.payload := rfl
@[simp] theorem State.setWait_freeList (p : Port) (l : Option LockId) : (s.setWait p l).freeList = s.freeList := rfl
@[simp] theorem State.setWait_reservations (p : Port) (l : Option LockId) :
    (s.setWait p l).reservations = s.reservations := rfl
@[simp] theorem State.setWait_watermark (p : Port) (l : Option LockId) : (s.setWait p l).watermark = s.watermark := rfl
@[simp] theorem State.setWait_channels (p : Port) (l : Option LockId) : (s.setWait p l).channels = s.channels := rfl
@[simp] theorem State.setWait_publishQueue (p : Port) (l : Option LockId) :
    (s.setWait p l).publishQueue = s.publishQueue := rfl
@[simp] theorem State.setWait_engine (p : Port) (l : Option LockId) : (s.setWait p l).engine = s.engine := rfl
@[simp] theorem State.setWait_completions (p : Port) (l : Option LockId) : (s.setWait p l).completions = s.completions := rfl
@[simp] theorem State.setWait_queues (p : Port) (l : Option LockId) : (s.setWait p l).queues = s.queues := rfl
@[simp] theorem State.setWait_holds (p : Port) (l : Option LockId) : (s.setWait p l).holds = s.holds := rfl
@[simp] theorem State.setWait_locks (p : Port) (l : Option LockId) : (s.setWait p l).locks = s.locks := rfl
@[simp] theorem State.setWait_waits (p : Port) (l : Option LockId) : (s.setWait p l).waits = s.waits.set p l := rfl
@[simp] theorem State.setWait_time (p : Port) (l : Option LockId) : (s.setWait p l).time = s.time := rfl
@[simp] theorem State.setWait_due (p : Port) (l : Option LockId) : (s.setWait p l).due = s.due := rfl
@[simp] theorem State.setWait_ports (p : Port) (l : Option LockId) : (s.setWait p l).ports = s.ports := rfl
@[simp] theorem State.setWait_reports (p : Port) (l : Option LockId) : (s.setWait p l).reports = s.reports := rfl
@[simp] theorem State.setWait_events (p : Port) (l : Option LockId) : (s.setWait p l).events = s.events := rfl
@[simp] theorem State.setWait_windows (p : Port) (l : Option LockId) : (s.setWait p l).windows = s.windows := rfl
@[simp] theorem State.setWait_device (p : Port) (l : Option LockId) : (s.setWait p l).device = s.device := rfl

/-! ### raise -/

@[simp] theorem State.raise_pending (p : Port) (e : Event) : (s.raise p e).pending = s.pending := rfl
@[simp] theorem State.raise_porAsserted (p : Port) (e : Event) : (s.raise p e).porAsserted = s.porAsserted := rfl
@[simp] theorem State.raise_geometry (p : Port) (e : Event) : (s.raise p e).geometry = s.geometry := rfl
@[simp] theorem State.raise_slots (p : Port) (e : Event) : (s.raise p e).slots = s.slots := rfl
@[simp] theorem State.raise_payload (p : Port) (e : Event) : (s.raise p e).payload = s.payload := rfl
@[simp] theorem State.raise_freeList (p : Port) (e : Event) : (s.raise p e).freeList = s.freeList := rfl
@[simp] theorem State.raise_reservations (p : Port) (e : Event) : (s.raise p e).reservations = s.reservations := rfl
@[simp] theorem State.raise_watermark (p : Port) (e : Event) : (s.raise p e).watermark = s.watermark := rfl
@[simp] theorem State.raise_channels (p : Port) (e : Event) : (s.raise p e).channels = s.channels := rfl
@[simp] theorem State.raise_publishQueue (p : Port) (e : Event) : (s.raise p e).publishQueue = s.publishQueue := rfl
@[simp] theorem State.raise_engine (p : Port) (e : Event) : (s.raise p e).engine = s.engine := rfl
@[simp] theorem State.raise_completions (p : Port) (e : Event) : (s.raise p e).completions = s.completions := rfl
@[simp] theorem State.raise_queues (p : Port) (e : Event) : (s.raise p e).queues = s.queues := rfl
@[simp] theorem State.raise_holds (p : Port) (e : Event) : (s.raise p e).holds = s.holds := rfl
@[simp] theorem State.raise_locks (p : Port) (e : Event) : (s.raise p e).locks = s.locks := rfl
@[simp] theorem State.raise_waits (p : Port) (e : Event) : (s.raise p e).waits = s.waits := rfl
@[simp] theorem State.raise_time (p : Port) (e : Event) : (s.raise p e).time = s.time := rfl
@[simp] theorem State.raise_due (p : Port) (e : Event) : (s.raise p e).due = s.due := rfl
@[simp] theorem State.raise_ports (p : Port) (e : Event) : (s.raise p e).ports = s.ports := rfl
@[simp] theorem State.raise_reports (p : Port) (e : Event) : (s.raise p e).reports = s.reports := rfl
@[simp] theorem State.raise_events (p : Port) (e : Event) :
    (s.raise p e).events = s.events.modify p fun u => u.raise e := rfl
@[simp] theorem State.raise_windows (p : Port) (e : Event) : (s.raise p e).windows = s.windows := rfl
@[simp] theorem State.raise_device (p : Port) (e : Event) : (s.raise p e).device = s.device := rfl

/-! ### report -/

@[simp] theorem State.report_pending (p : Port) (k : ReportKind) : (s.report p k).pending = s.pending := rfl
@[simp] theorem State.report_porAsserted (p : Port) (k : ReportKind) : (s.report p k).porAsserted = s.porAsserted := rfl
@[simp] theorem State.report_geometry (p : Port) (k : ReportKind) : (s.report p k).geometry = s.geometry := rfl
@[simp] theorem State.report_slots (p : Port) (k : ReportKind) : (s.report p k).slots = s.slots := rfl
@[simp] theorem State.report_payload (p : Port) (k : ReportKind) : (s.report p k).payload = s.payload := rfl
@[simp] theorem State.report_freeList (p : Port) (k : ReportKind) : (s.report p k).freeList = s.freeList := rfl
@[simp] theorem State.report_reservations (p : Port) (k : ReportKind) : (s.report p k).reservations = s.reservations := rfl
@[simp] theorem State.report_watermark (p : Port) (k : ReportKind) : (s.report p k).watermark = s.watermark := rfl
@[simp] theorem State.report_channels (p : Port) (k : ReportKind) : (s.report p k).channels = s.channels := rfl
@[simp] theorem State.report_publishQueue (p : Port) (k : ReportKind) : (s.report p k).publishQueue = s.publishQueue := rfl
@[simp] theorem State.report_engine (p : Port) (k : ReportKind) : (s.report p k).engine = s.engine := rfl
@[simp] theorem State.report_completions (p : Port) (k : ReportKind) : (s.report p k).completions = s.completions := rfl
@[simp] theorem State.report_queues (p : Port) (k : ReportKind) : (s.report p k).queues = s.queues := rfl
@[simp] theorem State.report_holds (p : Port) (k : ReportKind) : (s.report p k).holds = s.holds := rfl
@[simp] theorem State.report_locks (p : Port) (k : ReportKind) : (s.report p k).locks = s.locks := rfl
@[simp] theorem State.report_waits (p : Port) (k : ReportKind) : (s.report p k).waits = s.waits := rfl
@[simp] theorem State.report_time (p : Port) (k : ReportKind) : (s.report p k).time = s.time := rfl
@[simp] theorem State.report_due (p : Port) (k : ReportKind) : (s.report p k).due = s.due := rfl
@[simp] theorem State.report_ports (p : Port) (k : ReportKind) : (s.report p k).ports = s.ports := rfl
@[simp] theorem State.report_reports (p : Port) (k : ReportKind) :
    (s.report p k).reports = if s.attached p then s.reports ++ [{ port := p, kind := k }] else s.reports := rfl
@[simp] theorem State.report_events (p : Port) (k : ReportKind) : (s.report p k).events = s.events := rfl
@[simp] theorem State.report_windows (p : Port) (k : ReportKind) : (s.report p k).windows = s.windows := rfl
@[simp] theorem State.report_device (p : Port) (k : ReportKind) : (s.report p k).device = s.device := rfl

/-! ### addRef -/

@[simp] theorem State.addRef_pending (i : SlotId) : (s.addRef i).pending = s.pending := rfl
@[simp] theorem State.addRef_porAsserted (i : SlotId) : (s.addRef i).porAsserted = s.porAsserted := rfl
@[simp] theorem State.addRef_geometry (i : SlotId) : (s.addRef i).geometry = s.geometry := rfl
@[simp] theorem State.addRef_slots (i : SlotId) :
    (s.addRef i).slots = s.slots.modify i fun r => { r with refs := r.refs + 1 } := rfl
@[simp] theorem State.addRef_payload (i : SlotId) : (s.addRef i).payload = s.payload := rfl
@[simp] theorem State.addRef_freeList (i : SlotId) : (s.addRef i).freeList = s.freeList := rfl
@[simp] theorem State.addRef_reservations (i : SlotId) : (s.addRef i).reservations = s.reservations := rfl
@[simp] theorem State.addRef_watermark (i : SlotId) : (s.addRef i).watermark = s.watermark := rfl
@[simp] theorem State.addRef_channels (i : SlotId) : (s.addRef i).channels = s.channels := rfl
@[simp] theorem State.addRef_publishQueue (i : SlotId) : (s.addRef i).publishQueue = s.publishQueue := rfl
@[simp] theorem State.addRef_engine (i : SlotId) : (s.addRef i).engine = s.engine := rfl
@[simp] theorem State.addRef_completions (i : SlotId) : (s.addRef i).completions = s.completions := rfl
@[simp] theorem State.addRef_queues (i : SlotId) : (s.addRef i).queues = s.queues := rfl
@[simp] theorem State.addRef_holds (i : SlotId) : (s.addRef i).holds = s.holds := rfl
@[simp] theorem State.addRef_locks (i : SlotId) : (s.addRef i).locks = s.locks := rfl
@[simp] theorem State.addRef_waits (i : SlotId) : (s.addRef i).waits = s.waits := rfl
@[simp] theorem State.addRef_time (i : SlotId) : (s.addRef i).time = s.time := rfl
@[simp] theorem State.addRef_due (i : SlotId) : (s.addRef i).due = s.due := rfl
@[simp] theorem State.addRef_ports (i : SlotId) : (s.addRef i).ports = s.ports := rfl
@[simp] theorem State.addRef_reports (i : SlotId) : (s.addRef i).reports = s.reports := rfl
@[simp] theorem State.addRef_events (i : SlotId) : (s.addRef i).events = s.events := rfl
@[simp] theorem State.addRef_windows (i : SlotId) : (s.addRef i).windows = s.windows := rfl
@[simp] theorem State.addRef_device (i : SlotId) : (s.addRef i).device = s.device := rfl

/-! ### driveData -/

@[simp] theorem State.driveData_pending (p : Port) (w : Word) : (s.driveData p w).pending = s.pending := rfl
@[simp] theorem State.driveData_porAsserted (p : Port) (w : Word) : (s.driveData p w).porAsserted = s.porAsserted := rfl
@[simp] theorem State.driveData_geometry (p : Port) (w : Word) : (s.driveData p w).geometry = s.geometry := rfl
@[simp] theorem State.driveData_slots (p : Port) (w : Word) : (s.driveData p w).slots = s.slots := rfl
@[simp] theorem State.driveData_payload (p : Port) (w : Word) : (s.driveData p w).payload = s.payload := rfl
@[simp] theorem State.driveData_freeList (p : Port) (w : Word) : (s.driveData p w).freeList = s.freeList := rfl
@[simp] theorem State.driveData_reservations (p : Port) (w : Word) : (s.driveData p w).reservations = s.reservations := rfl
@[simp] theorem State.driveData_watermark (p : Port) (w : Word) : (s.driveData p w).watermark = s.watermark := rfl
@[simp] theorem State.driveData_channels (p : Port) (w : Word) : (s.driveData p w).channels = s.channels := rfl
@[simp] theorem State.driveData_publishQueue (p : Port) (w : Word) : (s.driveData p w).publishQueue = s.publishQueue := rfl
@[simp] theorem State.driveData_engine (p : Port) (w : Word) : (s.driveData p w).engine = s.engine := rfl
@[simp] theorem State.driveData_completions (p : Port) (w : Word) : (s.driveData p w).completions = s.completions := rfl
@[simp] theorem State.driveData_queues (p : Port) (w : Word) : (s.driveData p w).queues = s.queues := rfl
@[simp] theorem State.driveData_holds (p : Port) (w : Word) : (s.driveData p w).holds = s.holds := rfl
@[simp] theorem State.driveData_locks (p : Port) (w : Word) : (s.driveData p w).locks = s.locks := rfl
@[simp] theorem State.driveData_waits (p : Port) (w : Word) : (s.driveData p w).waits = s.waits := rfl
@[simp] theorem State.driveData_time (p : Port) (w : Word) : (s.driveData p w).time = s.time := rfl
@[simp] theorem State.driveData_due (p : Port) (w : Word) : (s.driveData p w).due = s.due := rfl
@[simp] theorem State.driveData_ports (p : Port) (w : Word) : (s.driveData p w).ports = s.ports := rfl
@[simp] theorem State.driveData_reports (p : Port) (w : Word) : (s.driveData p w).reports = s.reports := rfl
@[simp] theorem State.driveData_events (p : Port) (w : Word) : (s.driveData p w).events = s.events := rfl
@[simp] theorem State.driveData_windows (p : Port) (w : Word) :
    (s.driveData p w).windows = s.windows.modify p fun x => { x with readData := w } := rfl
@[simp] theorem State.driveData_device (p : Port) (w : Word) : (s.driveData p w).device = s.device := rfl

end Sys2Proof.Machine
end

