-- ==== Sys2Proof/Laws/Answers.lean ====
section
/-! SUPPORT. How a command is taken and answered: the meanings' `takeCommand` and `post` against `issues`, `posted` and `shown`, and
the first condition of a table of checks. -/

namespace Sys2Proof.Machine

set_option Elab.async false

/-! ### Words and classes -/

theorem bytesWord_append (x y : Byte) : bytesWord x.toNat y.toNat = y ++ x := by
  apply BitVec.eq_of_toNat_eq
  have hx := x.isLt
  have hy := y.isLt
  rw [BitVec.toNat_append, Nat.shiftLeft_eq, ← Nat.shiftLeft_eq, ← Nat.shiftLeft_add_eq_or_of_lt hx]
  simp only [bytesWord, toWord, BitVec.toNat_ofNat, Nat.shiftLeft_eq]
  omega

theorem Response.classOf_eq_kind (r : Response) : r.classOf = r.kind := by cases r <;> rfl

/-! ### Taking a command -/

theorem State.issuedArgs_of_issues {s : State} {p : Port} {c : Command} {a : Words6} (h : s.issues p c a) :
    s.issuedArgs p c = some a := by
  obtain ⟨h1, h2⟩ := h
  simp [State.issuedArgs, h1, h2]

theorem State.issues_of_issuedArgs {s : State} {p : Port} {c : Command} {a : Words6} (h : s.issuedArgs p c = some a) :
    s.issues p c a := by
  unfold State.issuedArgs at h
  split at h
  · simp at h
  · next h0 =>
    split at h
    · next i hi =>
      split at h
      · next hc =>
        simp only [Option.some.injEq] at h
        subst hc h
        exact ⟨by simpa using h0, hi⟩
      · simp at h
    · simp at h

/-- The owning block answers the command that is issued. -/
theorem State.takeCommand_of_issues {s : State} {p : Port} {c : Command} {a : Words6} (body : Words6 → Answer)
    (h : s.issues p c a) : s.takeCommand p c body = .next ((body a).post p c) := by
  simp [State.takeCommand, State.issuedArgs_of_issues h]

/-- Where the command is not issued, the event does not occur. -/
theorem State.takeCommand_of_not_issues {s : State} {p : Port} {c : Command} (body : Words6 → Answer)
    (h : ∀ a, ¬s.issues p c a) : s.takeCommand p c body = .next s := by
  have : s.issuedArgs p c = none := by
    cases e : s.issuedArgs p c with
    | none => rfl
    | some a => exact absurd (State.issues_of_issuedArgs e) (h a)
  simp [State.takeCommand, this]

/-- A taken command answers next, whatever it is. -/
theorem State.takeCommand_next (s : State) (p : Port) (c : Command) (body : Words6 → Answer) :
    ∃ t, s.takeCommand p c body = .next t ∧ (t = s ∨ ∃ a, s.issues p c a ∧ t = (body a).post p c) := by
  unfold State.takeCommand
  cases e : s.issuedArgs p c with
  | none => exact ⟨s, rfl, .inl rfl⟩
  | some a => exact ⟨_, rfl, .inr ⟨a, State.issues_of_issuedArgs e, rfl⟩⟩

/-! ### Posting an answer -/

theorem Answer.post_shown (x : Answer) (p : Port) (c : Command) (h1 : x.scored = true) (h2 : x.resets = false) :
    x.post p c = x.state.shown p c x.response x.results := by
  by_cases h : x.response.kind = .fault <;>
  simp [Answer.post, h, h1, h2, State.shown, Response.classOf_eq_kind, State.updWindow, State.raise, State.updEvents,
    PerPort.modify, Window.post, EventUnit.raise, bytesWord_append, Event.number, BitVec.twoPow]

theorem Answer.post_posted (x : Answer) (p : Port) (c : Command) (h1 : x.scored = false) :
    x.post p c =
      if x.resets then (x.state.posted p c x.response x.results).deviceReset else x.state.posted p c x.response x.results := by
  by_cases h : x.response.kind = .fault <;>
  simp [Answer.post, h, h1, State.posted, State.shown, Response.classOf_eq_kind, State.updWindow, State.raise, State.updEvents,
    PerPort.modify, Window.post, EventUnit.raise, bytesWord_append, State.report, State.reported, State.attached, Event.number, BitVec.twoPow]

/-- The answer that changes nothing but the window, posted. -/
@[simp] theorem State.answer_post (s : State) (p : Port) (c : Command) (r : Response) (w : Words6) :
    (s.answer r w).post p c = s.posted p c r w := Answer.post_posted (s.answer r w) p c rfl

theorem State.locationFault_eq (s : State) (p : Port) (r : Response) (o : Byte) :
    s.locationFault p r o.toNat = s.locationFaulted p r o := by
  simp [State.locationFault, State.locationFaulted, bytesWord_append, State.updWindow, State.raise, State.updEvents,
    State.report, State.reported, State.attached, PerPort.modify, EventUnit.raise, Event.number, BitVec.twoPow]

/-! ### The first condition that holds -/

@[simp] theorem judge_nil : judge [] = none := rfl

theorem judge_cons (b : Bool) (r : Response) (w : Words6) (rest : List (Bool × Response × Words6)) :
    judge (on b r w :: rest) = if b then some (r, w) else judge rest := by
  cases b <;> rfl

theorem judge_append (xs ys : List (Bool × Response × Words6)) : judge (xs ++ ys) = (judge xs).or (judge ys) := by
  induction xs with
  | nil => rfl
  | cons x xs ih =>
    obtain ⟨b, r, w⟩ := x
    cases b
    · simpa [judge, List.find?] using ih
    · rfl

end Sys2Proof.Machine
end

