-- ==== Sys2Proof/Laws/Table.lean ====
section
/-! SUPPORT. What reading finds after a write of the per-port records and the fixed-size tables. -/

namespace Sys2Proof

set_option Elab.async false

/-! ### Ports -/

theorem Port.mem_all (p : Port) : p ∈ Port.all := by cases p <;> decide

theorem Port.index_lt (p : Port) : p.index < 4 := by cases p <;> decide

theorem Port.index_injective {p q : Port} (h : p.index = q.index) : p = q := by cases p <;> cases q <;> simp_all [Port.index]

@[simp] theorem Port.ofIndex?_index (p : Port) : Port.ofIndex? p.index = some p := by cases p <;> rfl

theorem Port.ofIndex?_eq_some {n : Nat} {p : Port} : Port.ofIndex? n = some p ↔ n = p.index := by
  constructor
  · intro h
    unfold Port.ofIndex? at h
    split at h <;> simp_all <;> subst h <;> rfl
  · rintro rfl
    exact Port.ofIndex?_index p

/-! ### One record for each port -/

variable {α β : Type}

@[ext] theorem PerPort.ext' {t u : PerPort α} (h : ∀ p, t.get p = u.get p) : t = u := by
  cases t
  cases u
  simpa [PerPort.get] using And.intro (h .A) (And.intro (h .B) (And.intro (h .C) (h .D)))

@[simp] theorem PerPort.get_set_same (t : PerPort α) (p : Port) (x : α) : (t.set p x).get p = x := by cases p <;> rfl

@[simp] theorem PerPort.get_set_other (t : PerPort α) {p q : Port} (x : α) (h : q ≠ p) : (t.set p x).get q = t.get q := by
  cases p <;> cases q <;> first | rfl | exact absurd rfl h

theorem PerPort.get_set (t : PerPort α) (p q : Port) (x : α) : (t.set p x).get q = if q = p then x else t.get q := by
  cases p <;> cases q <;> rfl

@[simp] theorem PerPort.set_get (t : PerPort α) (p : Port) : t.set p (t.get p) = t := by cases p <;> rfl

@[simp] theorem PerPort.set_set (t : PerPort α) (p : Port) (x y : α) : (t.set p x).set p y = t.set p y := by cases p <;> rfl

theorem PerPort.get_modify (t : PerPort α) (p q : Port) (f : α → α) :
    (t.modify p f).get q = if q = p then f (t.get p) else t.get q := PerPort.get_set t p q _

@[simp] theorem PerPort.get_all (x : α) (p : Port) : (PerPort.all x).get p = x := by cases p <;> rfl

@[simp] theorem PerPort.get_map (f : α → β) (t : PerPort α) (p : Port) : (t.map f).get p = f (t.get p) := by cases p <;> rfl

/-! ### Tables -/

variable {n : Nat}

@[ext] theorem Table.ext' {t u : Table α n} (h : ∀ i, t.get i = u.get i) : t = u := by
  obtain ⟨tc, ts⟩ := t
  obtain ⟨uc, us⟩ := u
  have : tc = uc := by
    apply List.ext_getElem (ts.trans us.symm)
    intro k hk _
    exact h ⟨k, ts ▸ hk⟩
  subst this
  rfl

@[simp] theorem Table.get_set_same (t : Table α n) (i : Fin n) (x : α) : (t.set i x).get i = x := by
  simp [Table.get, Table.set]

@[simp] theorem Table.get_set_other (t : Table α n) {i j : Fin n} (x : α) (h : j ≠ i) : (t.set i x).get j = t.get j := by
  have : i.val ≠ j.val := fun e => h (Fin.ext e.symm)
  simp [Table.get, Table.set, this]

theorem Table.get_set (t : Table α n) (i j : Fin n) (x : α) : (t.set i x).get j = if j = i then x else t.get j := by
  by_cases h : j = i
  · subst h
    simp
  · simp [h]

@[simp] theorem Table.set_get (t : Table α n) (i : Fin n) : t.set i (t.get i) = t := by
  apply Table.ext'
  intro j
  rw [Table.get_set]
  split
  · next h => rw [h]
  · rfl

@[simp] theorem Table.set_set (t : Table α n) (i : Fin n) (x y : α) : (t.set i x).set i y = t.set i y := by
  apply Table.ext'
  intro j
  simp only [Table.get_set]
  split <;> rfl

theorem Table.get_modify (t : Table α n) (i j : Fin n) (f : α → α) :
    (t.modify i f).get j = if j = i then f (t.get i) else t.get j := Table.get_set t i j _

@[simp] theorem Table.get_replicate (x : α) (i : Fin n) : (Table.replicate n x).get i = x := by
  simp [Table.get, Table.replicate]

@[simp] theorem Table.get_map (f : α → β) (t : Table α n) (i : Fin n) : (t.map f).get i = f (t.get i) := by
  simp [Table.get, Table.map]

/-! ### The numbers of a table -/

@[simp] theorem mem_indices (n : Nat) (i : Fin n) : i ∈ indices n := by
  simp only [indices, List.mem_pmap, List.mem_range]
  exact ⟨i.val, i.isLt, rfl⟩

theorem map_val_indices (n : Nat) : (indices n).map (fun i => i.val) = List.range n := by
  simp [indices, List.map_pmap]

theorem nodup_indices (n : Nat) : (indices n).Nodup := by
  apply List.Nodup.of_map (fun i => i.val)
  rw [map_val_indices]
  exact List.nodup_range

end Sys2Proof
end

