-- ==== Sys2Proof/Laws/Checks.lean ====
section
/-! SUPPORT. The numbers and checks of Operands.lean and Ops.lean against the numbers and tables of checks of Safety.lean. -/

namespace Sys2Proof.Machine

set_option Elab.async false

/-! ### Numbers of channels, locks and ports -/

theorem channel?_of_val {n : Nat} {ch : ChannelId} (h : n = ch.val) : channel? n = some ch := by
  subst h
  simp [channel?]

theorem lock?_of_val {n : Nat} {l : LockId} (h : n = l.val) : lock? n = some l := by
  subst h
  simp [lock?]

theorem val_of_channel? {n : Nat} {ch : ChannelId} (h : channel? n = some ch) : n = ch.val := by
  unfold channel? at h
  split at h
  · simp only [Option.some.injEq] at h
    subst h
    rfl
  · simp at h

theorem val_of_lock? {n : Nat} {l : LockId} (h : lock? n = some l) : n = l.val := by
  unfold lock? at h
  split at h
  · simp only [Option.some.injEq] at h
    subst h
    rfl
  · simp at h

theorem channel?_none {n : Nat} : channel? n = none ↔ 31 < n := by
  unfold channel?
  split <;> simp <;> omega

theorem lock?_none {n : Nat} : lock? n = none ↔ 15 < n := by
  unfold lock?
  split <;> simp <;> omega

theorem portOfIndex?_none {n : Nat} : Port.ofIndex? n = none ↔ 3 < n := by
  rcases Nat.lt_or_ge 3 n with h | h
  · refine ⟨fun _ => h, fun _ => ?_⟩
    cases e : Port.ofIndex? n with
    | none => rfl
    | some p =>
      have h1 := Port.ofIndex?_eq_some.1 e
      have h2 := Port.index_lt p
      omega
  · interval_cases n <;> simp [Port.ofIndex?]

theorem channelPort?_of_val {w : Word} {ch : ChannelId} {q : Port} (h : w.toNat = ch.val + 256 * q.index) :
    channelPort? w = some (ch, q) := by
  have h1 := ch.isLt
  have h2 := q.index_lt
  have h3 : channel? (lowByte w) = some ch := channel?_of_val (by unfold lowByte; omega)
  have h4 : highByte w = q.index := by unfold highByte; omega
  simp [channelPort?, h3, h4]

theorem State.channelAt_val (s : State) (ch : ChannelId) : s.channelAt ch.val = s.defn? ch := by
  simp [State.channelAt, State.defn?]

theorem State.frozenAt_val (s : State) (ch : ChannelId) : s.frozenAt ch.val = (s.channels.get ch).frozen := by
  simp [State.frozenAt]

theorem State.lockAt_val (s : State) (l : LockId) : s.lockAt l.val = some (s.locks.get l) := by
  simp [State.lockAt]

theorem State.subAt_val (s : State) (ch : ChannelId) (p : Port) : s.subAt ch.val p.index = s.sub? ch p := by
  simp only [State.subAt, Port.ofIndex?_index, State.channelAt_val, State.sub?]
  cases s.defn? ch <;> rfl

/-! ### Operands out of range -/

theorem geometry?_none {w : Word} : geometry? w = none ↔ w ≠ 32 ∧ w ≠ 64 ∧ w ≠ 128 := by
  unfold geometry?
  split_ifs <;> simp_all

theorem publishers?_none {w : Word} : publishers? w = none ↔ 15 < w.toNat := by
  unfold publishers?
  split_ifs <;> simp <;> omega

theorem depth?_none {n : Nat} : depth? n = none ↔ 16 < n := by
  unfold depth? Config.depthMax
  split_ifs <;> simp <;> omega

theorem policy?_none {n : Nat} : policy? n = none ↔ 1 < n := by
  unfold policy?
  split_ifs <;> simp <;> omega

theorem kind?_none {w : Word} : kind? w = none ↔ 1 < w.toNat := by
  unfold kind?
  split_ifs with h1 h2
  · subst h1
    simp
  · subst h2
    simp
  · have e1 : w.toNat ≠ 0 := fun e => h1 (BitVec.eq_of_toNat_eq (by simpa using e))
    have e2 : w.toNat ≠ 1 := fun e => h2 (BitVec.eq_of_toNat_eq (by simpa using e))
    simp only [true_iff]
    omega

/-- A word selects what the selector read from it matches. -/
theorem selects_of_selector? {w : Word} {x : Selector} (h : selector? w = some x) : selects w = x.matches := by
  funext e
  unfold selector? anyWord at h
  by_cases hw : w = 0xFFFF
  · rw [if_pos hw] at h
    simp only [Option.some.injEq] at h
    subst h
    simp [selects, hw, Selector.matches]
  · rw [if_neg hw] at h
    cases hc : channel? w.toNat with
    | none => simp [hc] at h
    | some ch =>
      have h1 := val_of_channel? hc
      simp only [hc, Option.map_some, Option.some.injEq] at h
      subst h
      have hw' : ¬w = 65535#16 := hw
      simp [selects, hw', Selector.matches, h1, ← Fin.ext_iff]

/-! ### Checks that hold nothing -/

theorem judge_cons_none {b : Bool} {r : Response} {w : Words6} {l : List (Bool × Response × Words6)}
    (h : judge (on b r w :: l) = none) : b = false ∧ judge l = none := by
  rw [judge_cons] at h
  split at h
  · simp at h
  · next hb => exact ⟨by simpa using hb, h⟩

theorem judge_append_none {x y : List (Bool × Response × Words6)} (h : judge (x ++ y) = none) :
    judge x = none ∧ judge y = none := by
  rw [judge_append] at h
  cases e : judge x with
  | none => simpa [e] using h
  | some z => simp [e] at h

theorem State.absence_of_attached {s : State} {p : Port} (h : (s.ports.get p).state = .attached) : s.absence p = none := by
  simp [State.absence, h]

theorem State.attached_of_portChecks {s : State} {p : Port} (h : judge (s.portChecks p) = none) :
    (s.ports.get p).state = .attached := by
  obtain ⟨h1, h⟩ := judge_cons_none h
  obtain ⟨h2, _⟩ := judge_cons_none h
  cases e : (s.ports.get p).state <;> simp_all

theorem State.trafficCheck_of_runChecks {s : State} {p : Port} (h : judge (s.runChecks p) = none) :
    s.trafficCheck p = none ∧ s.device.state = .run ∧ (s.ports.get p).state = .attached := by
  obtain ⟨h1, h⟩ := judge_cons_none h
  have ha := State.attached_of_portChecks h
  have hd : s.device.state = .run := by cases e : s.device.state <;> simp_all
  exact ⟨by simp [State.trafficCheck, hd, State.absence_of_attached ha], hd, ha⟩

theorem State.settingCheck_of_settingChecks {s : State} {p : Port} (h : judge (s.settingChecks p) = none) :
    s.settingCheck p = none ∧ s.device.state = .config ∧ (s.ports.get p).state = .attached := by
  obtain ⟨h1, h⟩ := judge_cons_none h
  have ha := State.attached_of_portChecks h
  have hd : s.device.state = .config := by cases e : s.device.state <;> simp_all
  exact ⟨by simp [State.settingCheck, hd, State.absence_of_attached ha], hd, ha⟩

/-- RESTRICTED is a score of 128 or more at an ATTACHED port (R129). -/
theorem State.restricted_eq (s : State) (p : Port) :
    s.restricted p = (decide ((s.ports.get p).state = .attached) && decide (128 ≤ (s.ports.get p).score)) := by
  unfold State.restricted PortRecord.level? levelOf
  by_cases h : (s.ports.get p).state = .attached
  · simp only [h, if_true, decide_true, Bool.true_and, Config.warnedScore, Config.restrictedScore]
    congr 1
    split_ifs <;> simp <;> omega
  · simp [h]

/-- Checks 1 to 3 of R27, as `configCheck` makes them. -/
theorem State.judge_authorityChecks (s : State) (p : Port) (a : Words6) :
    judge (s.authorityChecks p a) = (s.configCheck p a).map fun r => (r, {}) := by
  have h0 : s.lockAt 0 = some (s.locks.get 0) := State.lockAt_val s 0
  simp only [State.authorityChecks, State.portChecks, judge_append, judge_cons, judge_nil, State.configCheck,
    State.absence, State.holderAt, State.numberAt, State.grantAt, h0]
  cases hs : (s.ports.get p).state <;> simp
  cases hd : s.device.state <;> simp
  cases hg : (s.locks.get 0).grant <;> simp [longOf]
  split_ifs <;> simp_all

end Sys2Proof.Machine
end

