-- ==== Sys2Proof/Laws/Ops.lean ====
section
/-! SUPPORT. What each shared operation leaves alone: one frame for each operation, split by simp into one rewrite for each field. -/

namespace Sys2Proof.Machine

set_option Elab.async false

/-- A fold keeps what each of its steps keeps. -/
theorem foldl_keeps {α β : Type} (f : State → α → State) (g : State → β) (h : ∀ s a, g (f s a) = g s) (l : List α) (s : State) :
    g (l.foldl f s) = g s := by
  induction l generalizing s with
  | nil => rfl
  | cons a l ih => rw [List.foldl_cons, ih, h]

/-- Freeing a slot touches slot records, the free list, accounts and due marks only. -/
@[simp] theorem State.freeSlot_frame (s : State) (i : SlotId) :
    (s.freeSlot i).pending = s.pending ∧ (s.freeSlot i).porAsserted = s.porAsserted ∧
    (s.freeSlot i).geometry = s.geometry ∧ (s.freeSlot i).payload = s.payload ∧
    (s.freeSlot i).reservations = s.reservations ∧ (s.freeSlot i).watermark = s.watermark ∧
    (s.freeSlot i).channels = s.channels ∧ (s.freeSlot i).publishQueue = s.publishQueue ∧
    (s.freeSlot i).engine = s.engine ∧ (s.freeSlot i).completions = s.completions ∧ (s.freeSlot i).queues = s.queues ∧
    (s.freeSlot i).holds = s.holds ∧ (s.freeSlot i).locks = s.locks ∧ (s.freeSlot i).waits = s.waits ∧
    (s.freeSlot i).time = s.time ∧ (s.freeSlot i).reports = s.reports ∧ (s.freeSlot i).events = s.events ∧
    (s.freeSlot i).windows = s.windows ∧ (s.freeSlot i).device = s.device := by
  simp [State.freeSlot]

/-- A release touches what freeing touches. -/
@[simp] theorem State.release_frame (s : State) (i : SlotId) :
    (s.release i).pending = s.pending ∧ (s.release i).porAsserted = s.porAsserted ∧
    (s.release i).geometry = s.geometry ∧ (s.release i).payload = s.payload ∧
    (s.release i).reservations = s.reservations ∧ (s.release i).watermark = s.watermark ∧
    (s.release i).channels = s.channels ∧ (s.release i).publishQueue = s.publishQueue ∧
    (s.release i).engine = s.engine ∧ (s.release i).completions = s.completions ∧ (s.release i).queues = s.queues ∧
    (s.release i).holds = s.holds ∧ (s.release i).locks = s.locks ∧ (s.release i).waits = s.waits ∧
    (s.release i).time = s.time ∧ (s.release i).reports = s.reports ∧ (s.release i).events = s.events ∧
    (s.release i).windows = s.windows ∧ (s.release i).device = s.device := by
  unfold State.release
  split <;> simp

/-- So do releases in a row. -/
@[simp] theorem State.releaseAll_frame (s : State) (is : List SlotId) :
    (s.releaseAll is).pending = s.pending ∧ (s.releaseAll is).porAsserted = s.porAsserted ∧
    (s.releaseAll is).geometry = s.geometry ∧ (s.releaseAll is).payload = s.payload ∧
    (s.releaseAll is).reservations = s.reservations ∧ (s.releaseAll is).watermark = s.watermark ∧
    (s.releaseAll is).channels = s.channels ∧ (s.releaseAll is).publishQueue = s.publishQueue ∧
    (s.releaseAll is).engine = s.engine ∧ (s.releaseAll is).completions = s.completions ∧
    (s.releaseAll is).queues = s.queues ∧ (s.releaseAll is).holds = s.holds ∧ (s.releaseAll is).locks = s.locks ∧
    (s.releaseAll is).waits = s.waits ∧ (s.releaseAll is).time = s.time ∧ (s.releaseAll is).reports = s.reports ∧
    (s.releaseAll is).events = s.events ∧ (s.releaseAll is).windows = s.windows ∧
    (s.releaseAll is).device = s.device := by
  unfold State.releaseAll
  induction is generalizing s with
  | nil => simp
  | cons i is ih => simpa using ih (s.release i)

/-- Raising an event touches event units only. -/
@[simp] theorem State.raiseAll_frame (s : State) (e : Event) (ps : List Port) :
    (s.raiseAll e ps).pending = s.pending ∧ (s.raiseAll e ps).porAsserted = s.porAsserted ∧
    (s.raiseAll e ps).geometry = s.geometry ∧ (s.raiseAll e ps).slots = s.slots ∧
    (s.raiseAll e ps).payload = s.payload ∧ (s.raiseAll e ps).freeList = s.freeList ∧
    (s.raiseAll e ps).reservations = s.reservations ∧ (s.raiseAll e ps).watermark = s.watermark ∧
    (s.raiseAll e ps).channels = s.channels ∧ (s.raiseAll e ps).publishQueue = s.publishQueue ∧
    (s.raiseAll e ps).engine = s.engine ∧ (s.raiseAll e ps).completions = s.completions ∧
    (s.raiseAll e ps).queues = s.queues ∧ (s.raiseAll e ps).holds = s.holds ∧ (s.raiseAll e ps).locks = s.locks ∧
    (s.raiseAll e ps).waits = s.waits ∧ (s.raiseAll e ps).time = s.time ∧ (s.raiseAll e ps).due = s.due ∧
    (s.raiseAll e ps).ports = s.ports ∧ (s.raiseAll e ps).reports = s.reports ∧
    (s.raiseAll e ps).windows = s.windows ∧ (s.raiseAll e ps).device = s.device := by
  unfold State.raiseAll
  induction ps generalizing s with
  | nil => simp
  | cons p ps ih => simpa using ih (s.raise p e)

/-- Counting a loss touches the subscription record and the event unit. -/
@[simp] theorem State.countLost_frame (s : State) (p : Port) (ch : ChannelId) :
    (s.countLost p ch).pending = s.pending ∧ (s.countLost p ch).porAsserted = s.porAsserted ∧
    (s.countLost p ch).geometry = s.geometry ∧ (s.countLost p ch).slots = s.slots ∧
    (s.countLost p ch).payload = s.payload ∧ (s.countLost p ch).freeList = s.freeList ∧
    (s.countLost p ch).reservations = s.reservations ∧ (s.countLost p ch).watermark = s.watermark ∧
    (s.countLost p ch).publishQueue = s.publishQueue ∧ (s.countLost p ch).engine = s.engine ∧
    (s.countLost p ch).completions = s.completions ∧ (s.countLost p ch).queues = s.queues ∧
    (s.countLost p ch).holds = s.holds ∧ (s.countLost p ch).locks = s.locks ∧ (s.countLost p ch).waits = s.waits ∧
    (s.countLost p ch).time = s.time ∧ (s.countLost p ch).due = s.due ∧ (s.countLost p ch).ports = s.ports ∧
    (s.countLost p ch).reports = s.reports ∧ (s.countLost p ch).windows = s.windows ∧
    (s.countLost p ch).device = s.device := by
  simp [State.countLost]

/-- Counting an expiry touches the subscription record and the event unit. -/
@[simp] theorem State.countExpired_frame (s : State) (p : Port) (ch : ChannelId) :
    (s.countExpired p ch).pending = s.pending ∧ (s.countExpired p ch).porAsserted = s.porAsserted ∧
    (s.countExpired p ch).geometry = s.geometry ∧ (s.countExpired p ch).slots = s.slots ∧
    (s.countExpired p ch).payload = s.payload ∧ (s.countExpired p ch).freeList = s.freeList ∧
    (s.countExpired p ch).reservations = s.reservations ∧ (s.countExpired p ch).watermark = s.watermark ∧
    (s.countExpired p ch).publishQueue = s.publishQueue ∧ (s.countExpired p ch).engine = s.engine ∧
    (s.countExpired p ch).completions = s.completions ∧ (s.countExpired p ch).queues = s.queues ∧
    (s.countExpired p ch).holds = s.holds ∧ (s.countExpired p ch).locks = s.locks ∧
    (s.countExpired p ch).waits = s.waits ∧ (s.countExpired p ch).time = s.time ∧ (s.countExpired p ch).due = s.due ∧
    (s.countExpired p ch).ports = s.ports ∧ (s.countExpired p ch).reports = s.reports ∧
    (s.countExpired p ch).windows = s.windows ∧ (s.countExpired p ch).device = s.device := by
  simp [State.countExpired]

/-- A completion record touches its list and the event unit. -/
@[simp] theorem State.complete_frame (s : State) (p : Port) (c : Completion) :
    (s.complete p c).pending = s.pending ∧ (s.complete p c).porAsserted = s.porAsserted ∧
    (s.complete p c).geometry = s.geometry ∧ (s.complete p c).slots = s.slots ∧ (s.complete p c).payload = s.payload ∧
    (s.complete p c).freeList = s.freeList ∧ (s.complete p c).reservations = s.reservations ∧
    (s.complete p c).watermark = s.watermark ∧ (s.complete p c).channels = s.channels ∧
    (s.complete p c).publishQueue = s.publishQueue ∧ (s.complete p c).engine = s.engine ∧
    (s.complete p c).queues = s.queues ∧ (s.complete p c).holds = s.holds ∧ (s.complete p c).locks = s.locks ∧
    (s.complete p c).waits = s.waits ∧ (s.complete p c).time = s.time ∧ (s.complete p c).due = s.due ∧
    (s.complete p c).ports = s.ports ∧ (s.complete p c).reports = s.reports ∧ (s.complete p c).windows = s.windows ∧
    (s.complete p c).device = s.device := by
  simp [State.complete]

/-- So does retiring a request. -/
@[simp] theorem State.retire_frame (s : State) (r : Request) (m : Message) (o : PublishOutcome) (n : Counts) :
    (s.retire r m o n).pending = s.pending ∧ (s.retire r m o n).porAsserted = s.porAsserted ∧
    (s.retire r m o n).geometry = s.geometry ∧ (s.retire r m o n).slots = s.slots ∧
    (s.retire r m o n).payload = s.payload ∧ (s.retire r m o n).freeList = s.freeList ∧
    (s.retire r m o n).reservations = s.reservations ∧ (s.retire r m o n).watermark = s.watermark ∧
    (s.retire r m o n).channels = s.channels ∧ (s.retire r m o n).publishQueue = s.publishQueue ∧
    (s.retire r m o n).engine = s.engine ∧ (s.retire r m o n).queues = s.queues ∧ (s.retire r m o n).holds = s.holds ∧
    (s.retire r m o n).locks = s.locks ∧ (s.retire r m o n).waits = s.waits ∧ (s.retire r m o n).time = s.time ∧
    (s.retire r m o n).due = s.due ∧ (s.retire r m o n).ports = s.ports ∧ (s.retire r m o n).reports = s.reports ∧
    (s.retire r m o n).windows = s.windows ∧ (s.retire r m o n).device = s.device := by
  unfold State.retire
  split <;> simp

/-- Withdrawing a request makes its record and releases its slot. -/
@[simp] theorem State.withdraw_frame (s : State) (o : PublishOutcome) (r : Request) :
    (s.withdraw o r).pending = s.pending ∧ (s.withdraw o r).porAsserted = s.porAsserted ∧
    (s.withdraw o r).geometry = s.geometry ∧ (s.withdraw o r).payload = s.payload ∧
    (s.withdraw o r).reservations = s.reservations ∧ (s.withdraw o r).watermark = s.watermark ∧
    (s.withdraw o r).channels = s.channels ∧ (s.withdraw o r).publishQueue = s.publishQueue ∧
    (s.withdraw o r).engine = s.engine ∧ (s.withdraw o r).queues = s.queues ∧ (s.withdraw o r).holds = s.holds ∧
    (s.withdraw o r).locks = s.locks ∧ (s.withdraw o r).waits = s.waits ∧ (s.withdraw o r).time = s.time ∧
    (s.withdraw o r).reports = s.reports ∧ (s.withdraw o r).windows = s.windows ∧
    (s.withdraw o r).device = s.device := by
  unfold State.withdraw
  split <;> simp

/-- Dropping entries touches the queue and releases slots. -/
@[simp] theorem State.dropEntries_frame (s : State) (p : Port) (f : Entry → Bool) :
    (s.dropEntries p f).pending = s.pending ∧ (s.dropEntries p f).porAsserted = s.porAsserted ∧
    (s.dropEntries p f).geometry = s.geometry ∧ (s.dropEntries p f).payload = s.payload ∧
    (s.dropEntries p f).reservations = s.reservations ∧ (s.dropEntries p f).watermark = s.watermark ∧
    (s.dropEntries p f).channels = s.channels ∧ (s.dropEntries p f).publishQueue = s.publishQueue ∧
    (s.dropEntries p f).engine = s.engine ∧ (s.dropEntries p f).completions = s.completions ∧
    (s.dropEntries p f).holds = s.holds ∧ (s.dropEntries p f).locks = s.locks ∧ (s.dropEntries p f).waits = s.waits ∧
    (s.dropEntries p f).time = s.time ∧ (s.dropEntries p f).reports = s.reports ∧
    (s.dropEntries p f).events = s.events ∧ (s.dropEntries p f).windows = s.windows ∧
    (s.dropEntries p f).device = s.device := by
  simp [State.dropEntries]

/-- Pulling an entry touches the queue only. -/
@[simp] theorem State.pullOldest_frame (s : State) (p : Port) (f : Entry → Bool) :
    (s.pullOldest p f).pending = s.pending ∧ (s.pullOldest p f).porAsserted = s.porAsserted ∧
    (s.pullOldest p f).geometry = s.geometry ∧ (s.pullOldest p f).slots = s.slots ∧
    (s.pullOldest p f).payload = s.payload ∧ (s.pullOldest p f).freeList = s.freeList ∧
    (s.pullOldest p f).reservations = s.reservations ∧ (s.pullOldest p f).watermark = s.watermark ∧
    (s.pullOldest p f).channels = s.channels ∧ (s.pullOldest p f).publishQueue = s.publishQueue ∧
    (s.pullOldest p f).engine = s.engine ∧ (s.pullOldest p f).completions = s.completions ∧
    (s.pullOldest p f).holds = s.holds ∧ (s.pullOldest p f).locks = s.locks ∧ (s.pullOldest p f).waits = s.waits ∧
    (s.pullOldest p f).time = s.time ∧ (s.pullOldest p f).due = s.due ∧ (s.pullOldest p f).ports = s.ports ∧
    (s.pullOldest p f).reports = s.reports ∧ (s.pullOldest p f).events = s.events ∧
    (s.pullOldest p f).windows = s.windows ∧ (s.pullOldest p f).device = s.device := by
  simp [State.pullOldest]

/-- Losing an entry touches the queue, the subscription record and the event unit, and releases the slot. -/
@[simp] theorem State.loseOldest_frame (s : State) (p : Port) (ch : ChannelId) :
    (s.loseOldest p ch).pending = s.pending ∧ (s.loseOldest p ch).porAsserted = s.porAsserted ∧
    (s.loseOldest p ch).geometry = s.geometry ∧ (s.loseOldest p ch).payload = s.payload ∧
    (s.loseOldest p ch).reservations = s.reservations ∧ (s.loseOldest p ch).watermark = s.watermark ∧
    (s.loseOldest p ch).publishQueue = s.publishQueue ∧ (s.loseOldest p ch).engine = s.engine ∧
    (s.loseOldest p ch).completions = s.completions ∧ (s.loseOldest p ch).holds = s.holds ∧
    (s.loseOldest p ch).locks = s.locks ∧ (s.loseOldest p ch).waits = s.waits ∧ (s.loseOldest p ch).time = s.time ∧
    (s.loseOldest p ch).reports = s.reports ∧ (s.loseOldest p ch).windows = s.windows ∧
    (s.loseOldest p ch).device = s.device := by
  unfold State.loseOldest
  split <;> simp

/-- A handoff touches the lock, the new holder's wait record and its event unit. -/
@[simp] theorem State.handoff_frame (s : State) (l : LockId) :
    (s.handoff l).pending = s.pending ∧ (s.handoff l).porAsserted = s.porAsserted ∧
    (s.handoff l).geometry = s.geometry ∧ (s.handoff l).slots = s.slots ∧ (s.handoff l).payload = s.payload ∧
    (s.handoff l).freeList = s.freeList ∧ (s.handoff l).reservations = s.reservations ∧
    (s.handoff l).watermark = s.watermark ∧ (s.handoff l).channels = s.channels ∧
    (s.handoff l).publishQueue = s.publishQueue ∧ (s.handoff l).engine = s.engine ∧
    (s.handoff l).completions = s.completions ∧ (s.handoff l).queues = s.queues ∧ (s.handoff l).holds = s.holds ∧
    (s.handoff l).time = s.time ∧ (s.handoff l).due = s.due ∧ (s.handoff l).ports = s.ports ∧
    (s.handoff l).reports = s.reports ∧ (s.handoff l).windows = s.windows ∧ (s.handoff l).device = s.device := by
  unfold State.handoff
  split <;> simp

/-- So does a handoff from a holder. -/
@[simp] theorem State.handoffFrom_frame (s : State) (p : Port) (l : LockId) :
    (s.handoffFrom p l).pending = s.pending ∧ (s.handoffFrom p l).porAsserted = s.porAsserted ∧
    (s.handoffFrom p l).geometry = s.geometry ∧ (s.handoffFrom p l).slots = s.slots ∧
    (s.handoffFrom p l).payload = s.payload ∧ (s.handoffFrom p l).freeList = s.freeList ∧
    (s.handoffFrom p l).reservations = s.reservations ∧ (s.handoffFrom p l).watermark = s.watermark ∧
    (s.handoffFrom p l).channels = s.channels ∧ (s.handoffFrom p l).publishQueue = s.publishQueue ∧
    (s.handoffFrom p l).engine = s.engine ∧ (s.handoffFrom p l).completions = s.completions ∧
    (s.handoffFrom p l).queues = s.queues ∧ (s.handoffFrom p l).holds = s.holds ∧ (s.handoffFrom p l).time = s.time ∧
    (s.handoffFrom p l).due = s.due ∧ (s.handoffFrom p l).ports = s.ports ∧ (s.handoffFrom p l).reports = s.reports ∧
    (s.handoffFrom p l).windows = s.windows ∧ (s.handoffFrom p l).device = s.device := by
  unfold State.handoffFrom
  split <;> simp

/-- Leaving a waiter list touches the lock and the wait record. -/
@[simp] theorem State.leaveList_frame (s : State) (p : Port) (l : LockId) :
    (s.leaveList p l).pending = s.pending ∧ (s.leaveList p l).porAsserted = s.porAsserted ∧
    (s.leaveList p l).geometry = s.geometry ∧ (s.leaveList p l).slots = s.slots ∧
    (s.leaveList p l).payload = s.payload ∧ (s.leaveList p l).freeList = s.freeList ∧
    (s.leaveList p l).reservations = s.reservations ∧ (s.leaveList p l).watermark = s.watermark ∧
    (s.leaveList p l).channels = s.channels ∧ (s.leaveList p l).publishQueue = s.publishQueue ∧
    (s.leaveList p l).engine = s.engine ∧ (s.leaveList p l).completions = s.completions ∧
    (s.leaveList p l).queues = s.queues ∧ (s.leaveList p l).holds = s.holds ∧ (s.leaveList p l).time = s.time ∧
    (s.leaveList p l).due = s.due ∧ (s.leaveList p l).ports = s.ports ∧ (s.leaveList p l).reports = s.reports ∧
    (s.leaveList p l).events = s.events ∧ (s.leaveList p l).windows = s.windows ∧
    (s.leaveList p l).device = s.device := by
  simp [State.leaveList]

/-- A fallen vote count touches the authorization counter only. -/
@[simp] theorem State.voteFell_frame (s : State) :
    (s.voteFell).pending = s.pending ∧ (s.voteFell).porAsserted = s.porAsserted ∧ (s.voteFell).geometry = s.geometry ∧
    (s.voteFell).slots = s.slots ∧ (s.voteFell).payload = s.payload ∧ (s.voteFell).freeList = s.freeList ∧
    (s.voteFell).reservations = s.reservations ∧ (s.voteFell).watermark = s.watermark ∧
    (s.voteFell).channels = s.channels ∧ (s.voteFell).publishQueue = s.publishQueue ∧ (s.voteFell).engine = s.engine ∧
    (s.voteFell).completions = s.completions ∧ (s.voteFell).queues = s.queues ∧ (s.voteFell).holds = s.holds ∧
    (s.voteFell).locks = s.locks ∧ (s.voteFell).waits = s.waits ∧ (s.voteFell).time = s.time ∧
    (s.voteFell).due = s.due ∧ (s.voteFell).ports = s.ports ∧ (s.voteFell).reports = s.reports ∧
    (s.voteFell).events = s.events ∧ (s.voteFell).windows = s.windows := by
  unfold State.voteFell
  split <;> simp

/-- Withdrawing a vote touches the port record and the authorization counter. -/
@[simp] theorem State.withdrawVote_frame (s : State) (p : Port) :
    (s.withdrawVote p).pending = s.pending ∧ (s.withdrawVote p).porAsserted = s.porAsserted ∧
    (s.withdrawVote p).geometry = s.geometry ∧ (s.withdrawVote p).slots = s.slots ∧
    (s.withdrawVote p).payload = s.payload ∧ (s.withdrawVote p).freeList = s.freeList ∧
    (s.withdrawVote p).reservations = s.reservations ∧ (s.withdrawVote p).watermark = s.watermark ∧
    (s.withdrawVote p).channels = s.channels ∧ (s.withdrawVote p).publishQueue = s.publishQueue ∧
    (s.withdrawVote p).engine = s.engine ∧ (s.withdrawVote p).completions = s.completions ∧
    (s.withdrawVote p).queues = s.queues ∧ (s.withdrawVote p).holds = s.holds ∧ (s.withdrawVote p).locks = s.locks ∧
    (s.withdrawVote p).waits = s.waits ∧ (s.withdrawVote p).time = s.time ∧ (s.withdrawVote p).due = s.due ∧
    (s.withdrawVote p).reports = s.reports ∧ (s.withdrawVote p).events = s.events ∧
    (s.withdrawVote p).windows = s.windows := by
  simp [State.withdrawVote]

/-- Ending a reservation touches its record and the fill pointer. -/
@[simp] theorem State.dropReservation_frame (s : State) (p : Port) :
    (s.dropReservation p).pending = s.pending ∧ (s.dropReservation p).porAsserted = s.porAsserted ∧
    (s.dropReservation p).geometry = s.geometry ∧ (s.dropReservation p).slots = s.slots ∧
    (s.dropReservation p).payload = s.payload ∧ (s.dropReservation p).freeList = s.freeList ∧
    (s.dropReservation p).watermark = s.watermark ∧ (s.dropReservation p).channels = s.channels ∧
    (s.dropReservation p).publishQueue = s.publishQueue ∧ (s.dropReservation p).engine = s.engine ∧
    (s.dropReservation p).completions = s.completions ∧ (s.dropReservation p).queues = s.queues ∧
    (s.dropReservation p).holds = s.holds ∧ (s.dropReservation p).locks = s.locks ∧
    (s.dropReservation p).waits = s.waits ∧ (s.dropReservation p).time = s.time ∧ (s.dropReservation p).due = s.due ∧
    (s.dropReservation p).ports = s.ports ∧ (s.dropReservation p).reports = s.reports ∧
    (s.dropReservation p).events = s.events ∧ (s.dropReservation p).device = s.device := by
  simp [State.dropReservation]

/-- Step 2 of the purge. -/
@[simp] theorem State.purgeReservation_frame (s : State) (p : Port) :
    (s.purgeReservation p).pending = s.pending ∧ (s.purgeReservation p).porAsserted = s.porAsserted ∧
    (s.purgeReservation p).geometry = s.geometry ∧ (s.purgeReservation p).payload = s.payload ∧
    (s.purgeReservation p).watermark = s.watermark ∧ (s.purgeReservation p).channels = s.channels ∧
    (s.purgeReservation p).publishQueue = s.publishQueue ∧ (s.purgeReservation p).engine = s.engine ∧
    (s.purgeReservation p).completions = s.completions ∧ (s.purgeReservation p).queues = s.queues ∧
    (s.purgeReservation p).holds = s.holds ∧ (s.purgeReservation p).locks = s.locks ∧
    (s.purgeReservation p).waits = s.waits ∧ (s.purgeReservation p).time = s.time ∧
    (s.purgeReservation p).reports = s.reports ∧ (s.purgeReservation p).events = s.events ∧
    (s.purgeReservation p).device = s.device := by
  unfold State.purgeReservation
  split <;> simp

/-- Emptying a read hold touches it and releases its slot. -/
@[simp] theorem State.emptyHold_frame (s : State) (p : Port) :
    (s.emptyHold p).pending = s.pending ∧ (s.emptyHold p).porAsserted = s.porAsserted ∧
    (s.emptyHold p).geometry = s.geometry ∧ (s.emptyHold p).payload = s.payload ∧
    (s.emptyHold p).reservations = s.reservations ∧ (s.emptyHold p).watermark = s.watermark ∧
    (s.emptyHold p).channels = s.channels ∧ (s.emptyHold p).publishQueue = s.publishQueue ∧
    (s.emptyHold p).engine = s.engine ∧ (s.emptyHold p).completions = s.completions ∧
    (s.emptyHold p).queues = s.queues ∧ (s.emptyHold p).locks = s.locks ∧ (s.emptyHold p).waits = s.waits ∧
    (s.emptyHold p).time = s.time ∧ (s.emptyHold p).reports = s.reports ∧ (s.emptyHold p).events = s.events ∧
    (s.emptyHold p).windows = s.windows ∧ (s.emptyHold p).device = s.device := by
  unfold State.emptyHold
  split <;> simp

/-- Step 3 of the purge. -/
@[simp] theorem State.purgeQueue_frame (s : State) (p : Port) :
    (s.purgeQueue p).pending = s.pending ∧ (s.purgeQueue p).porAsserted = s.porAsserted ∧
    (s.purgeQueue p).geometry = s.geometry ∧ (s.purgeQueue p).payload = s.payload ∧
    (s.purgeQueue p).reservations = s.reservations ∧ (s.purgeQueue p).watermark = s.watermark ∧
    (s.purgeQueue p).channels = s.channels ∧ (s.purgeQueue p).publishQueue = s.publishQueue ∧
    (s.purgeQueue p).engine = s.engine ∧ (s.purgeQueue p).completions = s.completions ∧
    (s.purgeQueue p).locks = s.locks ∧ (s.purgeQueue p).waits = s.waits ∧ (s.purgeQueue p).time = s.time ∧
    (s.purgeQueue p).reports = s.reports ∧ (s.purgeQueue p).events = s.events ∧ (s.purgeQueue p).windows = s.windows ∧
    (s.purgeQueue p).device = s.device := by
  simp [State.purgeQueue]

/-- Step 4 of the purge. -/
@[simp] theorem State.clearNews_frame (s : State) (p : Port) :
    (s.clearNews p).pending = s.pending ∧ (s.clearNews p).porAsserted = s.porAsserted ∧
    (s.clearNews p).geometry = s.geometry ∧ (s.clearNews p).slots = s.slots ∧ (s.clearNews p).payload = s.payload ∧
    (s.clearNews p).freeList = s.freeList ∧ (s.clearNews p).reservations = s.reservations ∧
    (s.clearNews p).watermark = s.watermark ∧ (s.clearNews p).publishQueue = s.publishQueue ∧
    (s.clearNews p).engine = s.engine ∧ (s.clearNews p).completions = s.completions ∧
    (s.clearNews p).queues = s.queues ∧ (s.clearNews p).holds = s.holds ∧ (s.clearNews p).locks = s.locks ∧
    (s.clearNews p).waits = s.waits ∧ (s.clearNews p).time = s.time ∧ (s.clearNews p).due = s.due ∧
    (s.clearNews p).ports = s.ports ∧ (s.clearNews p).reports = s.reports ∧ (s.clearNews p).events = s.events ∧
    (s.clearNews p).windows = s.windows ∧ (s.clearNews p).device = s.device := by
  simp [State.clearNews]

/-- Step 5 of the purge. -/
@[simp] theorem State.orphanPublishes_frame (s : State) (p : Port) :
    (s.orphanPublishes p).pending = s.pending ∧ (s.orphanPublishes p).porAsserted = s.porAsserted ∧
    (s.orphanPublishes p).geometry = s.geometry ∧ (s.orphanPublishes p).slots = s.slots ∧
    (s.orphanPublishes p).payload = s.payload ∧ (s.orphanPublishes p).freeList = s.freeList ∧
    (s.orphanPublishes p).reservations = s.reservations ∧ (s.orphanPublishes p).watermark = s.watermark ∧
    (s.orphanPublishes p).channels = s.channels ∧ (s.orphanPublishes p).queues = s.queues ∧
    (s.orphanPublishes p).holds = s.holds ∧ (s.orphanPublishes p).locks = s.locks ∧
    (s.orphanPublishes p).waits = s.waits ∧ (s.orphanPublishes p).time = s.time ∧ (s.orphanPublishes p).due = s.due ∧
    (s.orphanPublishes p).reports = s.reports ∧ (s.orphanPublishes p).events = s.events ∧
    (s.orphanPublishes p).windows = s.windows ∧ (s.orphanPublishes p).device = s.device := by
  simp [State.orphanPublishes]

/-- Handoffs in a row touch what one touches. -/
@[simp] theorem State.handoffs_frame (s : State) (p : Port) (ls : List LockId) :
    (ls.foldl (fun u l => u.handoffFrom p l) s).pending = s.pending ∧
    (ls.foldl (fun u l => u.handoffFrom p l) s).porAsserted = s.porAsserted ∧
    (ls.foldl (fun u l => u.handoffFrom p l) s).geometry = s.geometry ∧
    (ls.foldl (fun u l => u.handoffFrom p l) s).slots = s.slots ∧
    (ls.foldl (fun u l => u.handoffFrom p l) s).payload = s.payload ∧
    (ls.foldl (fun u l => u.handoffFrom p l) s).freeList = s.freeList ∧
    (ls.foldl (fun u l => u.handoffFrom p l) s).reservations = s.reservations ∧
    (ls.foldl (fun u l => u.handoffFrom p l) s).watermark = s.watermark ∧
    (ls.foldl (fun u l => u.handoffFrom p l) s).channels = s.channels ∧
    (ls.foldl (fun u l => u.handoffFrom p l) s).publishQueue = s.publishQueue ∧
    (ls.foldl (fun u l => u.handoffFrom p l) s).engine = s.engine ∧
    (ls.foldl (fun u l => u.handoffFrom p l) s).completions = s.completions ∧
    (ls.foldl (fun u l => u.handoffFrom p l) s).queues = s.queues ∧
    (ls.foldl (fun u l => u.handoffFrom p l) s).holds = s.holds ∧
    (ls.foldl (fun u l => u.handoffFrom p l) s).time = s.time ∧
    (ls.foldl (fun u l => u.handoffFrom p l) s).due = s.due ∧
    (ls.foldl (fun u l => u.handoffFrom p l) s).ports = s.ports ∧
    (ls.foldl (fun u l => u.handoffFrom p l) s).reports = s.reports ∧
    (ls.foldl (fun u l => u.handoffFrom p l) s).windows = s.windows ∧
    (ls.foldl (fun u l => u.handoffFrom p l) s).device = s.device := by
  induction ls generalizing s with
  | nil => simp
  | cons l ls ih => simpa using ih (s.handoffFrom p l)

/-- Step 6 of the purge. -/
@[simp] theorem State.purgeLocks_frame (s : State) (p : Port) :
    (s.purgeLocks p).pending = s.pending ∧ (s.purgeLocks p).porAsserted = s.porAsserted ∧
    (s.purgeLocks p).geometry = s.geometry ∧ (s.purgeLocks p).slots = s.slots ∧ (s.purgeLocks p).payload = s.payload ∧
    (s.purgeLocks p).freeList = s.freeList ∧ (s.purgeLocks p).reservations = s.reservations ∧
    (s.purgeLocks p).watermark = s.watermark ∧ (s.purgeLocks p).channels = s.channels ∧
    (s.purgeLocks p).publishQueue = s.publishQueue ∧ (s.purgeLocks p).engine = s.engine ∧
    (s.purgeLocks p).completions = s.completions ∧ (s.purgeLocks p).queues = s.queues ∧
    (s.purgeLocks p).holds = s.holds ∧ (s.purgeLocks p).time = s.time ∧ (s.purgeLocks p).due = s.due ∧
    (s.purgeLocks p).ports = s.ports ∧ (s.purgeLocks p).reports = s.reports ∧ (s.purgeLocks p).windows = s.windows ∧
    (s.purgeLocks p).device = s.device := by
  unfold State.purgeLocks
  split <;> simp

/-- Step 8 of the purge. -/
@[simp] theorem State.clearPending_frame (s : State) (p : Port) :
    (s.clearPending p).pending = s.pending ∧ (s.clearPending p).porAsserted = s.porAsserted ∧
    (s.clearPending p).geometry = s.geometry ∧ (s.clearPending p).slots = s.slots ∧
    (s.clearPending p).payload = s.payload ∧ (s.clearPending p).freeList = s.freeList ∧
    (s.clearPending p).reservations = s.reservations ∧ (s.clearPending p).watermark = s.watermark ∧
    (s.clearPending p).channels = s.channels ∧ (s.clearPending p).publishQueue = s.publishQueue ∧
    (s.clearPending p).engine = s.engine ∧ (s.clearPending p).completions = s.completions ∧
    (s.clearPending p).queues = s.queues ∧ (s.clearPending p).holds = s.holds ∧ (s.clearPending p).locks = s.locks ∧
    (s.clearPending p).waits = s.waits ∧ (s.clearPending p).time = s.time ∧ (s.clearPending p).due = s.due ∧
    (s.clearPending p).ports = s.ports ∧ (s.clearPending p).reports = s.reports ∧
    (s.clearPending p).windows = s.windows ∧ (s.clearPending p).device = s.device := by
  simp [State.clearPending]

/-- The end of a port's reports touches the reports only. -/
@[simp] theorem State.dropReports_frame (s : State) (p : Port) :
    (s.dropReports p).pending = s.pending ∧ (s.dropReports p).porAsserted = s.porAsserted ∧
    (s.dropReports p).geometry = s.geometry ∧ (s.dropReports p).slots = s.slots ∧
    (s.dropReports p).payload = s.payload ∧ (s.dropReports p).freeList = s.freeList ∧
    (s.dropReports p).reservations = s.reservations ∧ (s.dropReports p).watermark = s.watermark ∧
    (s.dropReports p).channels = s.channels ∧ (s.dropReports p).publishQueue = s.publishQueue ∧
    (s.dropReports p).engine = s.engine ∧ (s.dropReports p).completions = s.completions ∧
    (s.dropReports p).queues = s.queues ∧ (s.dropReports p).holds = s.holds ∧ (s.dropReports p).locks = s.locks ∧
    (s.dropReports p).waits = s.waits ∧ (s.dropReports p).time = s.time ∧ (s.dropReports p).due = s.due ∧
    (s.dropReports p).ports = s.ports ∧ (s.dropReports p).events = s.events ∧ (s.dropReports p).windows = s.windows ∧
    (s.dropReports p).device = s.device := ⟨rfl, rfl, rfl, rfl, rfl, rfl, rfl, rfl, rfl, rfl, rfl, rfl, rfl, rfl, rfl, rfl, rfl, rfl,
      rfl, rfl, rfl, rfl⟩

@[simp] theorem State.dropReports_reports (s : State) (p : Port) :
    (s.dropReports p).reports = s.reports.filter fun r => decide (r.port ≠ p) := rfl

/-- A purge leaves the payload store, the geometry, the watermark, the time base and the other ports' reports alone. -/
@[simp] theorem State.purge_frame (s : State) (p : Port) :
    (s.purge p).pending = s.pending ∧ (s.purge p).porAsserted = s.porAsserted ∧ (s.purge p).geometry = s.geometry ∧
    (s.purge p).payload = s.payload ∧ (s.purge p).watermark = s.watermark ∧ (s.purge p).time = s.time := by
  simp [State.purge]

@[simp] theorem State.purge_reports (s : State) (p : Port) :
    (s.purge p).reports = s.reports.filter fun r => decide (r.port ≠ p) := by
  simp [State.purge]

/-- A success touches the port record only. -/
@[simp] theorem State.lowerScore_frame (s : State) (p : Port) :
    (s.lowerScore p).pending = s.pending ∧ (s.lowerScore p).porAsserted = s.porAsserted ∧
    (s.lowerScore p).geometry = s.geometry ∧ (s.lowerScore p).slots = s.slots ∧ (s.lowerScore p).payload = s.payload ∧
    (s.lowerScore p).freeList = s.freeList ∧ (s.lowerScore p).reservations = s.reservations ∧
    (s.lowerScore p).watermark = s.watermark ∧ (s.lowerScore p).channels = s.channels ∧
    (s.lowerScore p).publishQueue = s.publishQueue ∧ (s.lowerScore p).engine = s.engine ∧
    (s.lowerScore p).completions = s.completions ∧ (s.lowerScore p).queues = s.queues ∧
    (s.lowerScore p).holds = s.holds ∧ (s.lowerScore p).locks = s.locks ∧ (s.lowerScore p).waits = s.waits ∧
    (s.lowerScore p).time = s.time ∧ (s.lowerScore p).due = s.due ∧ (s.lowerScore p).reports = s.reports ∧
    (s.lowerScore p).events = s.events ∧ (s.lowerScore p).windows = s.windows ∧
    (s.lowerScore p).device = s.device := by
  simp [State.lowerScore]

/-- Isolation touches what the purge touches. -/
@[simp] theorem State.isolate_frame (s : State) (p : Port) :
    (s.isolate p).pending = s.pending ∧ (s.isolate p).porAsserted = s.porAsserted ∧
    (s.isolate p).geometry = s.geometry ∧ (s.isolate p).payload = s.payload ∧ (s.isolate p).watermark = s.watermark ∧
    (s.isolate p).time = s.time := by
  simp [State.isolate]

@[simp] theorem State.isolate_reports (s : State) (p : Port) :
    (s.isolate p).reports = s.reports.filter fun r => decide (r.port ≠ p) := by
  simp [State.isolate]

/-- So does a charge of 8 points. -/
@[simp] theorem State.charge_frame (s : State) (p : Port) :
    (s.charge p).pending = s.pending ∧ (s.charge p).porAsserted = s.porAsserted ∧ (s.charge p).geometry = s.geometry ∧
    (s.charge p).payload = s.payload ∧ (s.charge p).watermark = s.watermark ∧ (s.charge p).time = s.time := by
  simp only [State.charge]
  split_ifs <;> simp

/-- So does a report. -/
@[simp] theorem State.score_frame (s : State) (p : Port) (k : ReportKind) :
    (s.score p k).pending = s.pending ∧ (s.score p k).porAsserted = s.porAsserted ∧
    (s.score p k).geometry = s.geometry ∧ (s.score p k).payload = s.payload ∧ (s.score p k).watermark = s.watermark ∧
    (s.score p k).time = s.time := by
  unfold State.score
  split
  · cases k <;> simp
  · simp

/-- After a report is taken, the reports are those before it, or those of the other ports where it isolated its port. -/
theorem State.score_reports (s : State) (p : Port) (k : ReportKind) :
    (s.score p k).reports = s.reports ∨ (s.score p k).reports = s.reports.filter fun r => decide (r.port ≠ p) := by
  unfold State.score State.charge
  split
  · cases k <;> simp only [State.lowerScore_frame, true_or] <;> split_ifs <;> simp
  · exact .inl rfl

/-- A device reset leaves the queue of commands, PORn, the geometry, the payload store and the watermark alone. -/
@[simp] theorem State.deviceReset_frame (s : State) :
    (s.deviceReset).pending = s.pending ∧ (s.deviceReset).porAsserted = s.porAsserted ∧
    (s.deviceReset).geometry = s.geometry ∧ (s.deviceReset).payload = s.payload ∧
    (s.deviceReset).watermark = s.watermark := by
  simp [State.deviceReset]

end Sys2Proof.Machine
end

