-- ==== Sys2Proof/Laws/Families.lean ====
section
/-! SUPPORT. What the operations of the families leave alone: one frame for each, split by simp into one rewrite for each field. -/

namespace Sys2Proof.Machine

set_option Elab.async false

/-- Trimming touches what losing an entry touches. -/
@[simp] theorem State.trim_frame (s : State) (p : Port) (ch : ChannelId) (k : Nat) :
    (s.trim p ch k).pending = s.pending ∧ (s.trim p ch k).porAsserted = s.porAsserted ∧
    (s.trim p ch k).geometry = s.geometry ∧ (s.trim p ch k).payload = s.payload ∧
    (s.trim p ch k).reservations = s.reservations ∧ (s.trim p ch k).watermark = s.watermark ∧
    (s.trim p ch k).publishQueue = s.publishQueue ∧ (s.trim p ch k).engine = s.engine ∧
    (s.trim p ch k).completions = s.completions ∧ (s.trim p ch k).holds = s.holds ∧ (s.trim p ch k).locks = s.locks ∧
    (s.trim p ch k).waits = s.waits ∧ (s.trim p ch k).time = s.time ∧ (s.trim p ch k).reports = s.reports ∧
    (s.trim p ch k).windows = s.windows ∧ (s.trim p ch k).device = s.device := by
  induction k generalizing s with
  | zero => simp [State.trim]
  | succ k ih => simpa [State.trim] using ih (s.loseOldest p ch)

/-- Setting a subscription record touches the channel table only. -/
@[simp] theorem State.setSub_frame (s : State) (ch : ChannelId) (q : Port) (b : Option Subscription) :
    (s.setSub ch q b).pending = s.pending ∧ (s.setSub ch q b).porAsserted = s.porAsserted ∧
    (s.setSub ch q b).geometry = s.geometry ∧ (s.setSub ch q b).slots = s.slots ∧
    (s.setSub ch q b).payload = s.payload ∧ (s.setSub ch q b).freeList = s.freeList ∧
    (s.setSub ch q b).reservations = s.reservations ∧ (s.setSub ch q b).watermark = s.watermark ∧
    (s.setSub ch q b).publishQueue = s.publishQueue ∧ (s.setSub ch q b).engine = s.engine ∧
    (s.setSub ch q b).completions = s.completions ∧ (s.setSub ch q b).queues = s.queues ∧
    (s.setSub ch q b).holds = s.holds ∧ (s.setSub ch q b).locks = s.locks ∧ (s.setSub ch q b).waits = s.waits ∧
    (s.setSub ch q b).time = s.time ∧ (s.setSub ch q b).due = s.due ∧ (s.setSub ch q b).ports = s.ports ∧
    (s.setSub ch q b).reports = s.reports ∧ (s.setSub ch q b).events = s.events ∧
    (s.setSub ch q b).windows = s.windows ∧ (s.setSub ch q b).device = s.device := by
  simp [State.setSub]

/-- SUSPEND and RESUME touch the channel table and event units. -/
@[simp] theorem State.setPhase_frame (s : State) (ch : ChannelId) (d : ChannelDef) (x : ChannelPhase) :
    (s.setPhase ch d x).pending = s.pending ∧ (s.setPhase ch d x).porAsserted = s.porAsserted ∧
    (s.setPhase ch d x).geometry = s.geometry ∧ (s.setPhase ch d x).slots = s.slots ∧
    (s.setPhase ch d x).payload = s.payload ∧ (s.setPhase ch d x).freeList = s.freeList ∧
    (s.setPhase ch d x).reservations = s.reservations ∧ (s.setPhase ch d x).watermark = s.watermark ∧
    (s.setPhase ch d x).publishQueue = s.publishQueue ∧ (s.setPhase ch d x).engine = s.engine ∧
    (s.setPhase ch d x).completions = s.completions ∧ (s.setPhase ch d x).queues = s.queues ∧
    (s.setPhase ch d x).holds = s.holds ∧ (s.setPhase ch d x).locks = s.locks ∧ (s.setPhase ch d x).waits = s.waits ∧
    (s.setPhase ch d x).time = s.time ∧ (s.setPhase ch d x).due = s.due ∧ (s.setPhase ch d x).ports = s.ports ∧
    (s.setPhase ch d x).reports = s.reports ∧ (s.setPhase ch d x).windows = s.windows ∧
    (s.setPhase ch d x).device = s.device := by
  simp [State.setPhase]

/-- Withdrawals in a row touch what one touches. -/
@[simp] theorem State.withdrawAll_frame (s : State) (is : List Request) (o : PublishOutcome) :
    (is.foldl (fun t r => t.withdraw o r) s).pending = s.pending ∧
    (is.foldl (fun t r => t.withdraw o r) s).porAsserted = s.porAsserted ∧
    (is.foldl (fun t r => t.withdraw o r) s).geometry = s.geometry ∧
    (is.foldl (fun t r => t.withdraw o r) s).payload = s.payload ∧
    (is.foldl (fun t r => t.withdraw o r) s).reservations = s.reservations ∧
    (is.foldl (fun t r => t.withdraw o r) s).watermark = s.watermark ∧
    (is.foldl (fun t r => t.withdraw o r) s).channels = s.channels ∧
    (is.foldl (fun t r => t.withdraw o r) s).publishQueue = s.publishQueue ∧
    (is.foldl (fun t r => t.withdraw o r) s).engine = s.engine ∧
    (is.foldl (fun t r => t.withdraw o r) s).queues = s.queues ∧
    (is.foldl (fun t r => t.withdraw o r) s).holds = s.holds ∧
    (is.foldl (fun t r => t.withdraw o r) s).locks = s.locks ∧
    (is.foldl (fun t r => t.withdraw o r) s).waits = s.waits ∧
    (is.foldl (fun t r => t.withdraw o r) s).time = s.time ∧
    (is.foldl (fun t r => t.withdraw o r) s).reports = s.reports ∧
    (is.foldl (fun t r => t.withdraw o r) s).windows = s.windows ∧
    (is.foldl (fun t r => t.withdraw o r) s).device = s.device := by
  induction is generalizing s with
  | nil => simp
  | cons r is ih => simpa using ih (s.withdraw o r)

/-- Step 1 of a close. -/
@[simp] theorem State.closeRequests_frame (s : State) (ch : ChannelId) :
    (s.closeRequests ch).pending = s.pending ∧ (s.closeRequests ch).porAsserted = s.porAsserted ∧
    (s.closeRequests ch).geometry = s.geometry ∧ (s.closeRequests ch).payload = s.payload ∧
    (s.closeRequests ch).reservations = s.reservations ∧ (s.closeRequests ch).watermark = s.watermark ∧
    (s.closeRequests ch).channels = s.channels ∧ (s.closeRequests ch).engine = s.engine ∧
    (s.closeRequests ch).queues = s.queues ∧ (s.closeRequests ch).holds = s.holds ∧
    (s.closeRequests ch).locks = s.locks ∧ (s.closeRequests ch).waits = s.waits ∧ (s.closeRequests ch).time = s.time ∧
    (s.closeRequests ch).reports = s.reports ∧ (s.closeRequests ch).windows = s.windows ∧
    (s.closeRequests ch).device = s.device := by
  simp [State.closeRequests]

/-- Drops of entries at a row of ports touch what one touches. -/
@[simp] theorem State.dropAll_frame (s : State) (ps : List Port) (f : Entry → Bool) :
    (ps.foldl (fun t q => t.dropEntries q f) s).pending = s.pending ∧
    (ps.foldl (fun t q => t.dropEntries q f) s).porAsserted = s.porAsserted ∧
    (ps.foldl (fun t q => t.dropEntries q f) s).geometry = s.geometry ∧
    (ps.foldl (fun t q => t.dropEntries q f) s).payload = s.payload ∧
    (ps.foldl (fun t q => t.dropEntries q f) s).reservations = s.reservations ∧
    (ps.foldl (fun t q => t.dropEntries q f) s).watermark = s.watermark ∧
    (ps.foldl (fun t q => t.dropEntries q f) s).channels = s.channels ∧
    (ps.foldl (fun t q => t.dropEntries q f) s).publishQueue = s.publishQueue ∧
    (ps.foldl (fun t q => t.dropEntries q f) s).engine = s.engine ∧
    (ps.foldl (fun t q => t.dropEntries q f) s).completions = s.completions ∧
    (ps.foldl (fun t q => t.dropEntries q f) s).holds = s.holds ∧
    (ps.foldl (fun t q => t.dropEntries q f) s).locks = s.locks ∧
    (ps.foldl (fun t q => t.dropEntries q f) s).waits = s.waits ∧
    (ps.foldl (fun t q => t.dropEntries q f) s).time = s.time ∧
    (ps.foldl (fun t q => t.dropEntries q f) s).reports = s.reports ∧
    (ps.foldl (fun t q => t.dropEntries q f) s).events = s.events ∧
    (ps.foldl (fun t q => t.dropEntries q f) s).windows = s.windows ∧
    (ps.foldl (fun t q => t.dropEntries q f) s).device = s.device := by
  induction ps generalizing s with
  | nil => simp
  | cons q ps ih => simpa using ih (s.dropEntries q f)

/-- Step 2 of a close. -/
@[simp] theorem State.closeEntries_frame (s : State) (ch : ChannelId) :
    (s.closeEntries ch).pending = s.pending ∧ (s.closeEntries ch).porAsserted = s.porAsserted ∧
    (s.closeEntries ch).geometry = s.geometry ∧ (s.closeEntries ch).payload = s.payload ∧
    (s.closeEntries ch).reservations = s.reservations ∧ (s.closeEntries ch).watermark = s.watermark ∧
    (s.closeEntries ch).channels = s.channels ∧ (s.closeEntries ch).publishQueue = s.publishQueue ∧
    (s.closeEntries ch).engine = s.engine ∧ (s.closeEntries ch).completions = s.completions ∧
    (s.closeEntries ch).holds = s.holds ∧ (s.closeEntries ch).locks = s.locks ∧ (s.closeEntries ch).waits = s.waits ∧
    (s.closeEntries ch).time = s.time ∧ (s.closeEntries ch).reports = s.reports ∧
    (s.closeEntries ch).events = s.events ∧ (s.closeEntries ch).windows = s.windows ∧
    (s.closeEntries ch).device = s.device := by
  simp [State.closeEntries]

/-- Step 3 of a close. -/
@[simp] theorem State.closeCurrent_frame (s : State) (d : ChannelDef) :
    (s.closeCurrent d).pending = s.pending ∧ (s.closeCurrent d).porAsserted = s.porAsserted ∧
    (s.closeCurrent d).geometry = s.geometry ∧ (s.closeCurrent d).payload = s.payload ∧
    (s.closeCurrent d).reservations = s.reservations ∧ (s.closeCurrent d).watermark = s.watermark ∧
    (s.closeCurrent d).channels = s.channels ∧ (s.closeCurrent d).publishQueue = s.publishQueue ∧
    (s.closeCurrent d).engine = s.engine ∧ (s.closeCurrent d).completions = s.completions ∧
    (s.closeCurrent d).queues = s.queues ∧ (s.closeCurrent d).holds = s.holds ∧ (s.closeCurrent d).locks = s.locks ∧
    (s.closeCurrent d).waits = s.waits ∧ (s.closeCurrent d).time = s.time ∧ (s.closeCurrent d).reports = s.reports ∧
    (s.closeCurrent d).events = s.events ∧ (s.closeCurrent d).windows = s.windows ∧
    (s.closeCurrent d).device = s.device := by
  unfold State.closeCurrent
  split <;> simp

/-- A close leaves read holds, reservations, locks and windows alone (R38). -/
@[simp] theorem State.closeChannel_frame (s : State) (ch : ChannelId) :
    (s.closeChannel ch).pending = s.pending ∧ (s.closeChannel ch).porAsserted = s.porAsserted ∧
    (s.closeChannel ch).geometry = s.geometry ∧ (s.closeChannel ch).payload = s.payload ∧
    (s.closeChannel ch).reservations = s.reservations ∧ (s.closeChannel ch).watermark = s.watermark ∧
    (s.closeChannel ch).engine = s.engine ∧ (s.closeChannel ch).holds = s.holds ∧
    (s.closeChannel ch).locks = s.locks ∧ (s.closeChannel ch).waits = s.waits ∧ (s.closeChannel ch).time = s.time ∧
    (s.closeChannel ch).reports = s.reports ∧ (s.closeChannel ch).windows = s.windows ∧
    (s.closeChannel ch).device = s.device := by
  unfold State.closeChannel
  split <;> simp

/-- Installing a current value touches the channel table and slots. -/
@[simp] theorem State.installCurrent_frame (s : State) (ch : ChannelId) (d : ChannelDef) (i : SlotId) :
    (s.installCurrent ch d i).pending = s.pending ∧ (s.installCurrent ch d i).porAsserted = s.porAsserted ∧
    (s.installCurrent ch d i).geometry = s.geometry ∧ (s.installCurrent ch d i).payload = s.payload ∧
    (s.installCurrent ch d i).reservations = s.reservations ∧ (s.installCurrent ch d i).watermark = s.watermark ∧
    (s.installCurrent ch d i).publishQueue = s.publishQueue ∧ (s.installCurrent ch d i).engine = s.engine ∧
    (s.installCurrent ch d i).completions = s.completions ∧ (s.installCurrent ch d i).queues = s.queues ∧
    (s.installCurrent ch d i).holds = s.holds ∧ (s.installCurrent ch d i).locks = s.locks ∧
    (s.installCurrent ch d i).waits = s.waits ∧ (s.installCurrent ch d i).time = s.time ∧
    (s.installCurrent ch d i).reports = s.reports ∧ (s.installCurrent ch d i).events = s.events ∧
    (s.installCurrent ch d i).windows = s.windows ∧ (s.installCurrent ch d i).device = s.device := by
  simp only [State.installCurrent]
  split <;> simp

/-- Expiries counted at a row of ports. -/
@[simp] theorem State.expiredAll_frame (s : State) (ps : List Port) (ch : ChannelId) :
    (ps.foldl (fun t q => t.countExpired q ch) s).pending = s.pending ∧
    (ps.foldl (fun t q => t.countExpired q ch) s).porAsserted = s.porAsserted ∧
    (ps.foldl (fun t q => t.countExpired q ch) s).geometry = s.geometry ∧
    (ps.foldl (fun t q => t.countExpired q ch) s).slots = s.slots ∧
    (ps.foldl (fun t q => t.countExpired q ch) s).payload = s.payload ∧
    (ps.foldl (fun t q => t.countExpired q ch) s).freeList = s.freeList ∧
    (ps.foldl (fun t q => t.countExpired q ch) s).reservations = s.reservations ∧
    (ps.foldl (fun t q => t.countExpired q ch) s).watermark = s.watermark ∧
    (ps.foldl (fun t q => t.countExpired q ch) s).publishQueue = s.publishQueue ∧
    (ps.foldl (fun t q => t.countExpired q ch) s).engine = s.engine ∧
    (ps.foldl (fun t q => t.countExpired q ch) s).completions = s.completions ∧
    (ps.foldl (fun t q => t.countExpired q ch) s).queues = s.queues ∧
    (ps.foldl (fun t q => t.countExpired q ch) s).holds = s.holds ∧
    (ps.foldl (fun t q => t.countExpired q ch) s).locks = s.locks ∧
    (ps.foldl (fun t q => t.countExpired q ch) s).waits = s.waits ∧
    (ps.foldl (fun t q => t.countExpired q ch) s).time = s.time ∧
    (ps.foldl (fun t q => t.countExpired q ch) s).due = s.due ∧
    (ps.foldl (fun t q => t.countExpired q ch) s).ports = s.ports ∧
    (ps.foldl (fun t q => t.countExpired q ch) s).reports = s.reports ∧
    (ps.foldl (fun t q => t.countExpired q ch) s).windows = s.windows ∧
    (ps.foldl (fun t q => t.countExpired q ch) s).device = s.device := by
  induction ps generalizing s with
  | nil => simp
  | cons q ps ih => simpa using ih (s.countExpired q ch)

/-- Withdrawing a current value touches the channel table, event units and slots. -/
@[simp] theorem State.withdrawCurrent_frame (s : State) (ch : ChannelId) (i : SlotId) :
    (s.withdrawCurrent ch i).pending = s.pending ∧ (s.withdrawCurrent ch i).porAsserted = s.porAsserted ∧
    (s.withdrawCurrent ch i).geometry = s.geometry ∧ (s.withdrawCurrent ch i).payload = s.payload ∧
    (s.withdrawCurrent ch i).reservations = s.reservations ∧ (s.withdrawCurrent ch i).watermark = s.watermark ∧
    (s.withdrawCurrent ch i).publishQueue = s.publishQueue ∧ (s.withdrawCurrent ch i).engine = s.engine ∧
    (s.withdrawCurrent ch i).completions = s.completions ∧ (s.withdrawCurrent ch i).queues = s.queues ∧
    (s.withdrawCurrent ch i).holds = s.holds ∧ (s.withdrawCurrent ch i).locks = s.locks ∧
    (s.withdrawCurrent ch i).waits = s.waits ∧ (s.withdrawCurrent ch i).time = s.time ∧
    (s.withdrawCurrent ch i).reports = s.reports ∧ (s.withdrawCurrent ch i).windows = s.windows ∧
    (s.withdrawCurrent ch i).device = s.device := by
  unfold State.withdrawCurrent
  split
  · simp
  · split <;> simp

/-- A notification touches the subscription record and the event unit. -/
@[simp] theorem State.notify_frame (s : State) (ch : ChannelId) (p : Port) :
    (s.notify ch p).pending = s.pending ∧ (s.notify ch p).porAsserted = s.porAsserted ∧
    (s.notify ch p).geometry = s.geometry ∧ (s.notify ch p).slots = s.slots ∧ (s.notify ch p).payload = s.payload ∧
    (s.notify ch p).freeList = s.freeList ∧ (s.notify ch p).reservations = s.reservations ∧
    (s.notify ch p).watermark = s.watermark ∧ (s.notify ch p).publishQueue = s.publishQueue ∧
    (s.notify ch p).engine = s.engine ∧ (s.notify ch p).completions = s.completions ∧
    (s.notify ch p).queues = s.queues ∧ (s.notify ch p).holds = s.holds ∧ (s.notify ch p).locks = s.locks ∧
    (s.notify ch p).waits = s.waits ∧ (s.notify ch p).time = s.time ∧ (s.notify ch p).due = s.due ∧
    (s.notify ch p).ports = s.ports ∧ (s.notify ch p).reports = s.reports ∧ (s.notify ch p).windows = s.windows ∧
    (s.notify ch p).device = s.device := by
  simp [State.notify]

/-- READ_STATE touches the slot's count, the read hold and the NEW flag. -/
@[simp] theorem State.readCurrent_frame (s : State) (p : Port) (ch : ChannelId) (i : SlotId) (m : Message) :
    (s.readCurrent p ch i m).pending = s.pending ∧ (s.readCurrent p ch i m).porAsserted = s.porAsserted ∧
    (s.readCurrent p ch i m).geometry = s.geometry ∧ (s.readCurrent p ch i m).payload = s.payload ∧
    (s.readCurrent p ch i m).freeList = s.freeList ∧ (s.readCurrent p ch i m).reservations = s.reservations ∧
    (s.readCurrent p ch i m).watermark = s.watermark ∧ (s.readCurrent p ch i m).publishQueue = s.publishQueue ∧
    (s.readCurrent p ch i m).engine = s.engine ∧ (s.readCurrent p ch i m).completions = s.completions ∧
    (s.readCurrent p ch i m).queues = s.queues ∧ (s.readCurrent p ch i m).locks = s.locks ∧
    (s.readCurrent p ch i m).waits = s.waits ∧ (s.readCurrent p ch i m).time = s.time ∧
    (s.readCurrent p ch i m).due = s.due ∧ (s.readCurrent p ch i m).ports = s.ports ∧
    (s.readCurrent p ch i m).reports = s.reports ∧ (s.readCurrent p ch i m).events = s.events ∧
    (s.readCurrent p ch i m).windows = s.windows ∧ (s.readCurrent p ch i m).device = s.device := by
  simp [State.readCurrent]

/-- RESERVE touches the pool, the port's account, its reservation and fill pointer. -/
@[simp] theorem State.reserveSlot_frame (s : State) (p : Port) (ch : ChannelId) (i : SlotId) (rest : List SlotId) :
    (s.reserveSlot p ch i rest).pending = s.pending ∧ (s.reserveSlot p ch i rest).porAsserted = s.porAsserted ∧
    (s.reserveSlot p ch i rest).geometry = s.geometry ∧ (s.reserveSlot p ch i rest).watermark = s.watermark ∧
    (s.reserveSlot p ch i rest).channels = s.channels ∧ (s.reserveSlot p ch i rest).publishQueue = s.publishQueue ∧
    (s.reserveSlot p ch i rest).engine = s.engine ∧ (s.reserveSlot p ch i rest).completions = s.completions ∧
    (s.reserveSlot p ch i rest).queues = s.queues ∧ (s.reserveSlot p ch i rest).holds = s.holds ∧
    (s.reserveSlot p ch i rest).locks = s.locks ∧ (s.reserveSlot p ch i rest).waits = s.waits ∧
    (s.reserveSlot p ch i rest).time = s.time ∧ (s.reserveSlot p ch i rest).due = s.due ∧
    (s.reserveSlot p ch i rest).reports = s.reports ∧ (s.reserveSlot p ch i rest).events = s.events ∧
    (s.reserveSlot p ch i rest).device = s.device := by
  simp [State.reserveSlot]

/-- POOL_LOW touches event units only. -/
@[simp] theorem State.warnPool_frame (s : State) (b a : Nat) :
    (s.warnPool b a).pending = s.pending ∧ (s.warnPool b a).porAsserted = s.porAsserted ∧
    (s.warnPool b a).geometry = s.geometry ∧ (s.warnPool b a).slots = s.slots ∧ (s.warnPool b a).payload = s.payload ∧
    (s.warnPool b a).freeList = s.freeList ∧ (s.warnPool b a).reservations = s.reservations ∧
    (s.warnPool b a).watermark = s.watermark ∧ (s.warnPool b a).channels = s.channels ∧
    (s.warnPool b a).publishQueue = s.publishQueue ∧ (s.warnPool b a).engine = s.engine ∧
    (s.warnPool b a).completions = s.completions ∧ (s.warnPool b a).queues = s.queues ∧
    (s.warnPool b a).holds = s.holds ∧ (s.warnPool b a).locks = s.locks ∧ (s.warnPool b a).waits = s.waits ∧
    (s.warnPool b a).time = s.time ∧ (s.warnPool b a).due = s.due ∧ (s.warnPool b a).ports = s.ports ∧
    (s.warnPool b a).reports = s.reports ∧ (s.warnPool b a).windows = s.windows ∧
    (s.warnPool b a).device = s.device := by
  unfold State.warnPool
  split <;> simp

/-- PUBLISH touches the channel's counter, the slot, the credits, the queue and the reservation. -/
@[simp] theorem State.acceptPublish_frame (s : State) (p : Port) (i : SlotId) (ch : ChannelId) (q : Port) (d : ChannelDef) (a : Words6) :
    (s.acceptPublish p i ch q d a).pending = s.pending ∧ (s.acceptPublish p i ch q d a).porAsserted = s.porAsserted ∧
    (s.acceptPublish p i ch q d a).geometry = s.geometry ∧ (s.acceptPublish p i ch q d a).payload = s.payload ∧
    (s.acceptPublish p i ch q d a).freeList = s.freeList ∧ (s.acceptPublish p i ch q d a).watermark = s.watermark ∧
    (s.acceptPublish p i ch q d a).engine = s.engine ∧ (s.acceptPublish p i ch q d a).completions = s.completions ∧
    (s.acceptPublish p i ch q d a).queues = s.queues ∧ (s.acceptPublish p i ch q d a).holds = s.holds ∧
    (s.acceptPublish p i ch q d a).locks = s.locks ∧ (s.acceptPublish p i ch q d a).waits = s.waits ∧
    (s.acceptPublish p i ch q d a).time = s.time ∧ (s.acceptPublish p i ch q d a).due = s.due ∧
    (s.acceptPublish p i ch q d a).reports = s.reports ∧ (s.acceptPublish p i ch q d a).events = s.events ∧
    (s.acceptPublish p i ch q d a).device = s.device := by
  simp [State.acceptPublish]

/-- The fan-out start touches the publish queue, the engine and the slot. -/
@[simp] theorem State.takeHead_frame (s : State) (r : Request) (rest : List Request) :
    (s.takeHead r rest).pending = s.pending ∧ (s.takeHead r rest).porAsserted = s.porAsserted ∧
    (s.takeHead r rest).geometry = s.geometry ∧ (s.takeHead r rest).payload = s.payload ∧
    (s.takeHead r rest).freeList = s.freeList ∧ (s.takeHead r rest).reservations = s.reservations ∧
    (s.takeHead r rest).watermark = s.watermark ∧ (s.takeHead r rest).channels = s.channels ∧
    (s.takeHead r rest).completions = s.completions ∧ (s.takeHead r rest).queues = s.queues ∧
    (s.takeHead r rest).holds = s.holds ∧ (s.takeHead r rest).locks = s.locks ∧ (s.takeHead r rest).waits = s.waits ∧
    (s.takeHead r rest).time = s.time ∧ (s.takeHead r rest).due = s.due ∧ (s.takeHead r rest).ports = s.ports ∧
    (s.takeHead r rest).reports = s.reports ∧ (s.takeHead r rest).events = s.events ∧
    (s.takeHead r rest).windows = s.windows ∧ (s.takeHead r rest).device = s.device := by
  simp [State.takeHead]

/-- On a STATE channel it also installs the current value. -/
@[simp] theorem State.startFanOut_frame (s : State) (r : Request) (rest : List Request) (m : Message) :
    (s.startFanOut r rest m).pending = s.pending ∧ (s.startFanOut r rest m).porAsserted = s.porAsserted ∧
    (s.startFanOut r rest m).geometry = s.geometry ∧ (s.startFanOut r rest m).payload = s.payload ∧
    (s.startFanOut r rest m).reservations = s.reservations ∧ (s.startFanOut r rest m).watermark = s.watermark ∧
    (s.startFanOut r rest m).completions = s.completions ∧ (s.startFanOut r rest m).queues = s.queues ∧
    (s.startFanOut r rest m).holds = s.holds ∧ (s.startFanOut r rest m).locks = s.locks ∧
    (s.startFanOut r rest m).waits = s.waits ∧ (s.startFanOut r rest m).time = s.time ∧
    (s.startFanOut r rest m).reports = s.reports ∧ (s.startFanOut r rest m).events = s.events ∧
    (s.startFanOut r rest m).windows = s.windows ∧ (s.startFanOut r rest m).device = s.device := by
  simp only [State.startFanOut]
  split
  · simp
  · split <;> simp

/-- A placement touches the delivery queue, the slot's count and the event unit. -/
@[simp] theorem State.place_frame (s : State) (p : Port) (e : Entry) :
    (s.place p e).pending = s.pending ∧ (s.place p e).porAsserted = s.porAsserted ∧
    (s.place p e).geometry = s.geometry ∧ (s.place p e).payload = s.payload ∧ (s.place p e).freeList = s.freeList ∧
    (s.place p e).reservations = s.reservations ∧ (s.place p e).watermark = s.watermark ∧
    (s.place p e).channels = s.channels ∧ (s.place p e).publishQueue = s.publishQueue ∧
    (s.place p e).engine = s.engine ∧ (s.place p e).completions = s.completions ∧ (s.place p e).holds = s.holds ∧
    (s.place p e).locks = s.locks ∧ (s.place p e).waits = s.waits ∧ (s.place p e).time = s.time ∧
    (s.place p e).due = s.due ∧ (s.place p e).ports = s.ports ∧ (s.place p e).reports = s.reports ∧
    (s.place p e).windows = s.windows ∧ (s.place p e).device = s.device := by
  simp [State.place]

/-- A placement event leaves read holds, publish queue, locks, windows and payload alone. -/
@[simp] theorem State.visit_frame (s : State) (f : FanOut) (p : Port) (m : Message) :
    (s.visit f p m).pending = s.pending ∧ (s.visit f p m).porAsserted = s.porAsserted ∧
    (s.visit f p m).geometry = s.geometry ∧ (s.visit f p m).payload = s.payload ∧
    (s.visit f p m).reservations = s.reservations ∧ (s.visit f p m).watermark = s.watermark ∧
    (s.visit f p m).publishQueue = s.publishQueue ∧ (s.visit f p m).completions = s.completions ∧
    (s.visit f p m).holds = s.holds ∧ (s.visit f p m).locks = s.locks ∧ (s.visit f p m).waits = s.waits ∧
    (s.visit f p m).time = s.time ∧ (s.visit f p m).reports = s.reports ∧ (s.visit f p m).windows = s.windows ∧
    (s.visit f p m).device = s.device := by
  simp only [State.visit, State.advance, State.placeStream]
  split
  · simp
  · simp
  · simp
  · split_ifs <;> simp
  · simp

/-- A fan-out end leaves read holds, reservations, locks, windows and payload alone. -/
@[simp] theorem State.endFanOut_frame (s : State) (f : FanOut) (m : Message) :
    (s.endFanOut f m).pending = s.pending ∧ (s.endFanOut f m).porAsserted = s.porAsserted ∧
    (s.endFanOut f m).geometry = s.geometry ∧ (s.endFanOut f m).payload = s.payload ∧
    (s.endFanOut f m).reservations = s.reservations ∧ (s.endFanOut f m).watermark = s.watermark ∧
    (s.endFanOut f m).holds = s.holds ∧ (s.endFanOut f m).locks = s.locks ∧ (s.endFanOut f m).waits = s.waits ∧
    (s.endFanOut f m).time = s.time ∧ (s.endFanOut f m).reports = s.reports ∧ (s.endFanOut f m).windows = s.windows ∧
    (s.endFanOut f m).device = s.device := by
  simp only [State.endFanOut, State.closeIfClosing]
  split_ifs <;> simp

/-- Joining a waiter list touches the lock and the wait record. -/
@[simp] theorem State.joinList_frame (s : State) (p : Port) (l : LockId) :
    (s.joinList p l).pending = s.pending ∧ (s.joinList p l).porAsserted = s.porAsserted ∧
    (s.joinList p l).geometry = s.geometry ∧ (s.joinList p l).slots = s.slots ∧ (s.joinList p l).payload = s.payload ∧
    (s.joinList p l).freeList = s.freeList ∧ (s.joinList p l).reservations = s.reservations ∧
    (s.joinList p l).watermark = s.watermark ∧ (s.joinList p l).channels = s.channels ∧
    (s.joinList p l).publishQueue = s.publishQueue ∧ (s.joinList p l).engine = s.engine ∧
    (s.joinList p l).completions = s.completions ∧ (s.joinList p l).queues = s.queues ∧
    (s.joinList p l).holds = s.holds ∧ (s.joinList p l).time = s.time ∧ (s.joinList p l).due = s.due ∧
    (s.joinList p l).ports = s.ports ∧ (s.joinList p l).reports = s.reports ∧ (s.joinList p l).events = s.events ∧
    (s.joinList p l).windows = s.windows ∧ (s.joinList p l).device = s.device := by
  simp [State.joinList]

/-- A lease expiry touches the lock, wait records, event units and the reports. -/
@[simp] theorem State.expireLease_frame (s : State) (l : LockId) (g : Grant) :
    (s.expireLease l g).pending = s.pending ∧ (s.expireLease l g).porAsserted = s.porAsserted ∧
    (s.expireLease l g).geometry = s.geometry ∧ (s.expireLease l g).slots = s.slots ∧
    (s.expireLease l g).payload = s.payload ∧ (s.expireLease l g).freeList = s.freeList ∧
    (s.expireLease l g).reservations = s.reservations ∧ (s.expireLease l g).watermark = s.watermark ∧
    (s.expireLease l g).channels = s.channels ∧ (s.expireLease l g).publishQueue = s.publishQueue ∧
    (s.expireLease l g).engine = s.engine ∧ (s.expireLease l g).completions = s.completions ∧
    (s.expireLease l g).queues = s.queues ∧ (s.expireLease l g).holds = s.holds ∧ (s.expireLease l g).time = s.time ∧
    (s.expireLease l g).due = s.due ∧ (s.expireLease l g).ports = s.ports ∧ (s.expireLease l g).windows = s.windows ∧
    (s.expireLease l g).device = s.device := by
  simp [State.expireLease]

/-- A tick at one lock touches what a lease expiry touches. -/
@[simp] theorem State.takeLease_frame (s : State) (l : LockId) :
    (s.takeLease l).pending = s.pending ∧ (s.takeLease l).porAsserted = s.porAsserted ∧
    (s.takeLease l).geometry = s.geometry ∧ (s.takeLease l).slots = s.slots ∧ (s.takeLease l).payload = s.payload ∧
    (s.takeLease l).freeList = s.freeList ∧ (s.takeLease l).reservations = s.reservations ∧
    (s.takeLease l).watermark = s.watermark ∧ (s.takeLease l).channels = s.channels ∧
    (s.takeLease l).publishQueue = s.publishQueue ∧ (s.takeLease l).engine = s.engine ∧
    (s.takeLease l).completions = s.completions ∧ (s.takeLease l).queues = s.queues ∧
    (s.takeLease l).holds = s.holds ∧ (s.takeLease l).time = s.time ∧ (s.takeLease l).due = s.due ∧
    (s.takeLease l).ports = s.ports ∧ (s.takeLease l).windows = s.windows ∧ (s.takeLease l).device = s.device := by
  unfold State.takeLease
  split
  · simp
  · split
    · simp
    · split_ifs <;> simp

/-- Ticks at a row of locks. -/
@[simp] theorem State.takeLeaseAll_frame (s : State) (ls : List LockId) :
    (ls.foldl State.takeLease s).pending = s.pending ∧ (ls.foldl State.takeLease s).porAsserted = s.porAsserted ∧
    (ls.foldl State.takeLease s).geometry = s.geometry ∧ (ls.foldl State.takeLease s).slots = s.slots ∧
    (ls.foldl State.takeLease s).payload = s.payload ∧ (ls.foldl State.takeLease s).freeList = s.freeList ∧
    (ls.foldl State.takeLease s).reservations = s.reservations ∧ (ls.foldl State.takeLease s).watermark = s.watermark ∧
    (ls.foldl State.takeLease s).channels = s.channels ∧ (ls.foldl State.takeLease s).publishQueue = s.publishQueue ∧
    (ls.foldl State.takeLease s).engine = s.engine ∧ (ls.foldl State.takeLease s).completions = s.completions ∧
    (ls.foldl State.takeLease s).queues = s.queues ∧ (ls.foldl State.takeLease s).holds = s.holds ∧
    (ls.foldl State.takeLease s).time = s.time ∧ (ls.foldl State.takeLease s).due = s.due ∧
    (ls.foldl State.takeLease s).ports = s.ports ∧ (ls.foldl State.takeLease s).windows = s.windows ∧
    (ls.foldl State.takeLease s).device = s.device := by
  induction ls generalizing s with
  | nil => simp
  | cons l ls ih => simpa using ih (s.takeLease l)

/-- The lock table's tick touches locks, wait records, event units and reports, and is due no more. -/
@[simp] theorem State.takeLeases_frame (s : State) :
    s.takeLeases.pending = s.pending ∧ s.takeLeases.porAsserted = s.porAsserted ∧ s.takeLeases.geometry = s.geometry ∧
    s.takeLeases.slots = s.slots ∧ s.takeLeases.payload = s.payload ∧ s.takeLeases.freeList = s.freeList ∧
    s.takeLeases.reservations = s.reservations ∧ s.takeLeases.watermark = s.watermark ∧
    s.takeLeases.channels = s.channels ∧ s.takeLeases.publishQueue = s.publishQueue ∧ s.takeLeases.engine = s.engine ∧
    s.takeLeases.completions = s.completions ∧ s.takeLeases.queues = s.queues ∧ s.takeLeases.holds = s.holds ∧
    s.takeLeases.time = s.time ∧ s.takeLeases.due = { s.due with locks := [] } ∧ s.takeLeases.ports = s.ports ∧
    s.takeLeases.windows = s.windows ∧ s.takeLeases.device = s.device := by
  simp [State.takeLeases]

/-- An expiry at a port touches its queue, subscription record, event unit and slots. -/
@[simp] theorem State.expireEntries_frame (s : State) (i : SlotId) (ch : ChannelId) (p : Port) :
    (s.expireEntries i ch p).pending = s.pending ∧ (s.expireEntries i ch p).porAsserted = s.porAsserted ∧
    (s.expireEntries i ch p).geometry = s.geometry ∧ (s.expireEntries i ch p).payload = s.payload ∧
    (s.expireEntries i ch p).reservations = s.reservations ∧ (s.expireEntries i ch p).watermark = s.watermark ∧
    (s.expireEntries i ch p).publishQueue = s.publishQueue ∧ (s.expireEntries i ch p).engine = s.engine ∧
    (s.expireEntries i ch p).completions = s.completions ∧ (s.expireEntries i ch p).holds = s.holds ∧
    (s.expireEntries i ch p).locks = s.locks ∧ (s.expireEntries i ch p).waits = s.waits ∧
    (s.expireEntries i ch p).time = s.time ∧ (s.expireEntries i ch p).reports = s.reports ∧
    (s.expireEntries i ch p).windows = s.windows ∧ (s.expireEntries i ch p).device = s.device := by
  unfold State.expireEntries
  split <;> simp

/-- Expiries at a row of ports. -/
@[simp] theorem State.expireAll_frame (s : State) (ps : List Port) (i : SlotId) (ch : ChannelId) :
    (ps.foldl (fun t q => t.expireEntries i ch q) s).pending = s.pending ∧
    (ps.foldl (fun t q => t.expireEntries i ch q) s).porAsserted = s.porAsserted ∧
    (ps.foldl (fun t q => t.expireEntries i ch q) s).geometry = s.geometry ∧
    (ps.foldl (fun t q => t.expireEntries i ch q) s).payload = s.payload ∧
    (ps.foldl (fun t q => t.expireEntries i ch q) s).reservations = s.reservations ∧
    (ps.foldl (fun t q => t.expireEntries i ch q) s).watermark = s.watermark ∧
    (ps.foldl (fun t q => t.expireEntries i ch q) s).publishQueue = s.publishQueue ∧
    (ps.foldl (fun t q => t.expireEntries i ch q) s).engine = s.engine ∧
    (ps.foldl (fun t q => t.expireEntries i ch q) s).completions = s.completions ∧
    (ps.foldl (fun t q => t.expireEntries i ch q) s).holds = s.holds ∧
    (ps.foldl (fun t q => t.expireEntries i ch q) s).locks = s.locks ∧
    (ps.foldl (fun t q => t.expireEntries i ch q) s).waits = s.waits ∧
    (ps.foldl (fun t q => t.expireEntries i ch q) s).time = s.time ∧
    (ps.foldl (fun t q => t.expireEntries i ch q) s).reports = s.reports ∧
    (ps.foldl (fun t q => t.expireEntries i ch q) s).windows = s.windows ∧
    (ps.foldl (fun t q => t.expireEntries i ch q) s).device = s.device := by
  induction ps generalizing s with
  | nil => simp
  | cons q ps ih => simpa using ih (s.expireEntries i ch q)

/-- The expiry of a LIVE slot leaves read holds alone (R71). -/
@[simp] theorem State.expireLive_frame (s : State) (i : SlotId) (m : Message) :
    (s.expireLive i m).pending = s.pending ∧ (s.expireLive i m).porAsserted = s.porAsserted ∧
    (s.expireLive i m).geometry = s.geometry ∧ (s.expireLive i m).payload = s.payload ∧
    (s.expireLive i m).reservations = s.reservations ∧ (s.expireLive i m).watermark = s.watermark ∧
    (s.expireLive i m).publishQueue = s.publishQueue ∧ (s.expireLive i m).engine = s.engine ∧
    (s.expireLive i m).completions = s.completions ∧ (s.expireLive i m).holds = s.holds ∧
    (s.expireLive i m).locks = s.locks ∧ (s.expireLive i m).waits = s.waits ∧ (s.expireLive i m).time = s.time ∧
    (s.expireLive i m).reports = s.reports ∧ (s.expireLive i m).windows = s.windows ∧
    (s.expireLive i m).device = s.device := by
  simp [State.expireLive]

/-- The expired mark touches the engine only. -/
@[simp] theorem State.markExpired_frame (s : State) (i : SlotId) :
    (s.markExpired i).pending = s.pending ∧ (s.markExpired i).porAsserted = s.porAsserted ∧
    (s.markExpired i).geometry = s.geometry ∧ (s.markExpired i).slots = s.slots ∧
    (s.markExpired i).payload = s.payload ∧ (s.markExpired i).freeList = s.freeList ∧
    (s.markExpired i).reservations = s.reservations ∧ (s.markExpired i).watermark = s.watermark ∧
    (s.markExpired i).channels = s.channels ∧ (s.markExpired i).publishQueue = s.publishQueue ∧
    (s.markExpired i).completions = s.completions ∧ (s.markExpired i).queues = s.queues ∧
    (s.markExpired i).holds = s.holds ∧ (s.markExpired i).locks = s.locks ∧ (s.markExpired i).waits = s.waits ∧
    (s.markExpired i).time = s.time ∧ (s.markExpired i).due = s.due ∧ (s.markExpired i).ports = s.ports ∧
    (s.markExpired i).reports = s.reports ∧ (s.markExpired i).events = s.events ∧
    (s.markExpired i).windows = s.windows ∧ (s.markExpired i).device = s.device := by
  simp [State.markExpired]

/-- The expiry of a PENDING slot touches the publish queue, a completion list and slots. -/
@[simp] theorem State.expirePending_frame (s : State) (i : SlotId) :
    (s.expirePending i).pending = s.pending ∧ (s.expirePending i).porAsserted = s.porAsserted ∧
    (s.expirePending i).geometry = s.geometry ∧ (s.expirePending i).payload = s.payload ∧
    (s.expirePending i).reservations = s.reservations ∧ (s.expirePending i).watermark = s.watermark ∧
    (s.expirePending i).channels = s.channels ∧ (s.expirePending i).engine = s.engine ∧
    (s.expirePending i).queues = s.queues ∧ (s.expirePending i).holds = s.holds ∧
    (s.expirePending i).locks = s.locks ∧ (s.expirePending i).waits = s.waits ∧ (s.expirePending i).time = s.time ∧
    (s.expirePending i).reports = s.reports ∧ (s.expirePending i).windows = s.windows ∧
    (s.expirePending i).device = s.device := by
  simp [State.expirePending]

/-- An expiry leaves read holds, locks, windows and payload alone. -/
@[simp] theorem State.expireSlot_frame (s : State) (i : SlotId) (m : Message) :
    (s.expireSlot i m).pending = s.pending ∧ (s.expireSlot i m).porAsserted = s.porAsserted ∧
    (s.expireSlot i m).geometry = s.geometry ∧ (s.expireSlot i m).payload = s.payload ∧
    (s.expireSlot i m).reservations = s.reservations ∧ (s.expireSlot i m).watermark = s.watermark ∧
    (s.expireSlot i m).holds = s.holds ∧ (s.expireSlot i m).locks = s.locks ∧ (s.expireSlot i m).waits = s.waits ∧
    (s.expireSlot i m).time = s.time ∧ (s.expireSlot i m).reports = s.reports ∧
    (s.expireSlot i m).windows = s.windows ∧ (s.expireSlot i m).device = s.device := by
  unfold State.expireSlot
  split <;> simp

/-- A slot's share of a tick touches what an expiry touches. -/
@[simp] theorem State.takeLifetime_frame (s : State) (i : SlotId) :
    (s.takeLifetime i).pending = s.pending ∧ (s.takeLifetime i).porAsserted = s.porAsserted ∧
    (s.takeLifetime i).geometry = s.geometry ∧ (s.takeLifetime i).payload = s.payload ∧
    (s.takeLifetime i).reservations = s.reservations ∧ (s.takeLifetime i).watermark = s.watermark ∧
    (s.takeLifetime i).holds = s.holds ∧ (s.takeLifetime i).locks = s.locks ∧ (s.takeLifetime i).waits = s.waits ∧
    (s.takeLifetime i).time = s.time ∧ (s.takeLifetime i).reports = s.reports ∧
    (s.takeLifetime i).windows = s.windows ∧ (s.takeLifetime i).device = s.device := by
  simp only [State.takeLifetime]
  split
  · simp
  · split_ifs <;> simp

/-- The port context unit's tick touches the port records, and is due no more. -/
@[simp] theorem State.takeCoolDowns_frame (s : State) :
    s.takeCoolDowns.pending = s.pending ∧ s.takeCoolDowns.porAsserted = s.porAsserted ∧
    s.takeCoolDowns.geometry = s.geometry ∧ s.takeCoolDowns.slots = s.slots ∧ s.takeCoolDowns.payload = s.payload ∧
    s.takeCoolDowns.freeList = s.freeList ∧ s.takeCoolDowns.reservations = s.reservations ∧
    s.takeCoolDowns.watermark = s.watermark ∧ s.takeCoolDowns.channels = s.channels ∧
    s.takeCoolDowns.publishQueue = s.publishQueue ∧ s.takeCoolDowns.engine = s.engine ∧
    s.takeCoolDowns.completions = s.completions ∧ s.takeCoolDowns.queues = s.queues ∧ s.takeCoolDowns.holds = s.holds ∧
    s.takeCoolDowns.locks = s.locks ∧ s.takeCoolDowns.waits = s.waits ∧ s.takeCoolDowns.time = s.time ∧
    s.takeCoolDowns.due = { s.due with ports := [] } ∧ s.takeCoolDowns.reports = s.reports ∧
    s.takeCoolDowns.events = s.events ∧ s.takeCoolDowns.windows = s.windows ∧ s.takeCoolDowns.device = s.device := by
  simp [State.takeCoolDowns]

/-- A vote touches the port record and event units. -/
@[simp] theorem State.castVote_frame (s : State) (p : Port) :
    (s.castVote p).pending = s.pending ∧ (s.castVote p).porAsserted = s.porAsserted ∧
    (s.castVote p).geometry = s.geometry ∧ (s.castVote p).slots = s.slots ∧ (s.castVote p).payload = s.payload ∧
    (s.castVote p).freeList = s.freeList ∧ (s.castVote p).reservations = s.reservations ∧
    (s.castVote p).watermark = s.watermark ∧ (s.castVote p).channels = s.channels ∧
    (s.castVote p).publishQueue = s.publishQueue ∧ (s.castVote p).engine = s.engine ∧
    (s.castVote p).completions = s.completions ∧ (s.castVote p).queues = s.queues ∧ (s.castVote p).holds = s.holds ∧
    (s.castVote p).locks = s.locks ∧ (s.castVote p).waits = s.waits ∧ (s.castVote p).time = s.time ∧
    (s.castVote p).due = s.due ∧ (s.castVote p).reports = s.reports ∧ (s.castVote p).windows = s.windows ∧
    (s.castVote p).device = s.device := by
  simp only [State.castVote]
  split_ifs <;> simp

/-- A fault at a window location touches the window, the event unit and the reports. -/
@[simp] theorem State.locationFault_frame (s : State) (p : Port) (r : Response) (n : Nat) :
    (s.locationFault p r n).pending = s.pending ∧ (s.locationFault p r n).porAsserted = s.porAsserted ∧
    (s.locationFault p r n).geometry = s.geometry ∧ (s.locationFault p r n).slots = s.slots ∧
    (s.locationFault p r n).payload = s.payload ∧ (s.locationFault p r n).freeList = s.freeList ∧
    (s.locationFault p r n).reservations = s.reservations ∧ (s.locationFault p r n).watermark = s.watermark ∧
    (s.locationFault p r n).channels = s.channels ∧ (s.locationFault p r n).publishQueue = s.publishQueue ∧
    (s.locationFault p r n).engine = s.engine ∧ (s.locationFault p r n).completions = s.completions ∧
    (s.locationFault p r n).queues = s.queues ∧ (s.locationFault p r n).holds = s.holds ∧
    (s.locationFault p r n).locks = s.locks ∧ (s.locationFault p r n).waits = s.waits ∧
    (s.locationFault p r n).time = s.time ∧ (s.locationFault p r n).due = s.due ∧
    (s.locationFault p r n).ports = s.ports ∧ (s.locationFault p r n).device = s.device := by
  simp [State.locationFault]

end Sys2Proof.Machine
end

