-- ==== Sys2Proof/Laws/Locks.lean ====
section
/-! SUPPORT. What handoffs and the lock table's tick do to lock records: each lock's record depends on that lock alone. -/

namespace Sys2Proof.Machine

set_option Elab.async false

/-! ### Handoff (R102) -/

/-- A handoff leaves the records of other locks. -/
theorem State.handoff_locks_other (s : State) {l m : LockId} (h : m ≠ l) : (s.handoff l).locks.get m = s.locks.get m := by
  unfold State.handoff
  split <;> simp [State.updLock, Table.get_modify, h]

/-- The lock handed off is granted to its first waiter under the next number, or is FREE. -/
theorem State.handoff_locks_same (s : State) (l : LockId) :
    (s.handoff l).locks.get l =
      match (s.locks.get l).waiters with
      | [] => { s.locks.get l with grant := none }
      | w :: ws => { s.locks.get l with waiters := ws }.grantTo w := by
  unfold State.handoff
  split <;> simp [State.updLock, Table.get_modify, *]

/-- The record that a handoff leaves depends on that lock's record alone. -/
theorem State.handoff_locks_congr {s t : State} {l : LockId} (h : t.locks.get l = s.locks.get l) :
    (t.handoff l).locks.get l = (s.handoff l).locks.get l := by
  simp only [State.handoff_locks_same, h]

/-! ### The lock table's tick (R103, R104) -/

/-- An expiring lease leaves the records of other locks. -/
theorem State.expireLease_locks_other (s : State) {l m : LockId} (g : Grant) (h : m ≠ l) :
    (s.expireLease l g).locks.get m = s.locks.get m := by
  simp [State.expireLease, State.handoff_locks_other _ h, State.updLock, Table.get_modify, h]

/-- The lock whose lease expires has its revoked grant set and is handed off. -/
theorem State.expireLease_locks_same (s : State) (l : LockId) (g : Grant) :
    (s.expireLease l g).locks.get l =
      (let k := { s.locks.get l with revoked := some { number := g.number, port := g.holder } }
      match k.waiters with
      | [] => { k with grant := none }
      | w :: ws => { k with waiters := ws }.grantTo w) := by
  simp [State.expireLease, State.handoff_locks_same, State.updLock, Table.get_modify]

/-- A tick at one lock leaves the records of other locks. -/
theorem State.takeLease_locks_other (s : State) {l m : LockId} (h : m ≠ l) : (s.takeLease l).locks.get m = s.locks.get m := by
  unfold State.takeLease
  split
  · rfl
  · split
    · rfl
    · split_ifs
      · simp [State.updLock, Table.get_modify, h]
      · exact State.expireLease_locks_other s _ h

/-- The record that a tick leaves at a lock depends on that lock's record alone. -/
theorem State.takeLease_locks_congr {s t : State} {l : LockId} (h : t.locks.get l = s.locks.get l) :
    (t.takeLease l).locks.get l = (s.takeLease l).locks.get l := by
  unfold State.takeLease
  rw [h]
  split
  · exact h
  · split
    · exact h
    · split_ifs
      · simp [State.updLock, Table.get_modify, h]
      · simp only [State.expireLease_locks_same, h]

theorem State.takeLeaseAll_locks_other (ls : List LockId) (s : State) {m : LockId} (h : m ∉ ls) :
    (ls.foldl State.takeLease s).locks.get m = s.locks.get m := by
  induction ls generalizing s with
  | nil => rfl
  | cons l ls ih =>
    rw [List.foldl_cons, ih _ (fun k => h (List.mem_cons_of_mem _ k)),
      State.takeLease_locks_other s (List.ne_of_not_mem_cons h)]

theorem State.takeLeaseAll_locks (ls : List LockId) (s : State) {m : LockId} (h : m ∈ ls) (nd : ls.Nodup) :
    (ls.foldl State.takeLease s).locks.get m = (s.takeLease m).locks.get m := by
  induction ls generalizing s with
  | nil => simp at h
  | cons l ls ih =>
    obtain ⟨h1, h2⟩ := List.nodup_cons.1 nd
    rw [List.foldl_cons]
    by_cases e : m = l
    · subst e
      exact State.takeLeaseAll_locks_other ls _ h1
    · rw [ih _ ((List.mem_cons.1 h).resolve_left e) h2]
      exact State.takeLease_locks_congr (State.takeLease_locks_other s e)

/-- The lock table's tick does to each lock what a tick at that lock alone does. -/
theorem State.takeLeases_locks (s : State) (m : LockId) : s.takeLeases.locks.get m = (s.takeLease m).locks.get m := by
  unfold State.takeLeases
  rw [State.takeLeaseAll_locks _ _ (mem_indices 16 m) (nodup_indices 16)]
  exact State.takeLease_locks_congr rfl

end Sys2Proof.Machine
end

