-- ==== Sys2Proof/Laws/Memory.lean ====
section
/-! SUPPORT. Every operation on the payload store keeps its canonical form, and what a read finds after it. -/

namespace Sys2Proof.Machine

set_option Elab.async false

@[simp] theorem Memory.read_nil (a : Nat) : Memory.read [] a = 0 := rfl

theorem Memory.read_of_forall_lt {m : Memory} {a : Nat} (h : ∀ c ∈ m, a < c.1) : Memory.read m a = 0 := by
  induction m with
  | nil => rfl
  | cons c m ih =>
    obtain ⟨b, x⟩ := c
    have hb : a < b := h (b, x) (List.mem_cons_self ..)
    have hne : a ≠ b := by omega
    simp only [Memory.read, hne, if_false]
    exact ih fun c hc => h c (List.mem_cons_of_mem _ hc)

/-- A listed address of a written store is the written one or was listed before. -/
theorem Memory.mem_write {m : Memory} {a : Nat} {v : Byte} {c : Host.Cell} (h : c ∈ Memory.write m a v) :
    c ∈ m ∨ c = (a, v) ∧ v ≠ 0 := by
  induction m with
  | nil =>
    simp only [Memory.write] at h
    split at h <;> simp_all [Memory.blank]
  | cons d m ih =>
    obtain ⟨b, x⟩ := d
    simp only [Memory.write] at h
    split_ifs at h <;> simp_all [Memory.blank] <;> grind

theorem Memory.wf_write {m : Memory} (a : Nat) (v : Byte) (h : Memory.wf m) : Memory.wf (Memory.write m a v) := by
  induction m with
  | nil =>
    simp only [Memory.write]
    split <;> simp_all [Memory.wf, Memory.blank]
  | cons d m ih =>
    obtain ⟨b, x⟩ := d
    obtain ⟨hs, hb⟩ := h
    rw [List.pairwise_cons] at hs
    have hm : Memory.wf m := ⟨hs.2, fun c hc => hb c (List.mem_cons_of_mem _ hc)⟩
    have hx : x ≠ 0 := hb (b, x) (List.mem_cons_self ..)
    simp only [Memory.write]
    split_ifs with h1 h2 h3 h4
    · exact ⟨List.pairwise_cons.2 hs, hb⟩
    · refine ⟨List.pairwise_cons.2 ⟨?_, List.pairwise_cons.2 hs⟩, ?_⟩
      · intro c hc
        rcases List.mem_cons.1 hc with rfl | hc
        · exact h1
        · exact lt_trans h1 (hs.1 c hc)
      · intro c hc
        rcases List.mem_cons.1 hc with rfl | hc
        · exact h2
        · exact hb c hc
    · exact hm
    · subst h3
      refine ⟨List.pairwise_cons.2 ⟨hs.1, hs.2⟩, ?_⟩
      intro c hc
      rcases List.mem_cons.1 hc with rfl | hc
      · exact h4
      · exact hm.2 c hc
    · obtain ⟨ihs, ihb⟩ := ih hm
      refine ⟨List.pairwise_cons.2 ⟨?_, ihs⟩, ?_⟩
      · intro c hc
        rcases Memory.mem_write hc with hc | ⟨rfl, _⟩
        · exact hs.1 c hc
        · show b < a
          omega
      · intro c hc
        rcases List.mem_cons.1 hc with rfl | hc
        · exact hx
        · exact ihb c hc

theorem Memory.read_cons (b : Nat) (y : Byte) (m : Memory) (x : Nat) :
    Memory.read ((b, y) :: m) x = if x = b then y else Memory.read m x := rfl

theorem Memory.read_write {m : Memory} (a x : Nat) (v : Byte) (h : Memory.wf m) :
    Memory.read (Memory.write m a v) x = if x = a then v else Memory.read m x := by
  induction m with
  | nil =>
    by_cases hv : v = 0
    · have : Memory.write [] a v = [] := if_pos hv
      rw [this, hv]
      simp
    · have : Memory.write [] a v = [(a, v)] := if_neg hv
      rw [this, Memory.read_cons]
  | cons d m ih =>
    obtain ⟨b, y⟩ := d
    obtain ⟨hs, hb⟩ := h
    rw [List.pairwise_cons] at hs
    have hm : Memory.wf m := ⟨hs.2, fun c hc => hb c (List.mem_cons_of_mem _ hc)⟩
    have below : a ≤ b → ∀ c ∈ m, a < c.1 := fun hab c hc => lt_of_le_of_lt hab (hs.1 c hc)
    by_cases h1 : a < b
    · have here : Memory.read ((b, y) :: m) a = 0 := by
        rw [Memory.read_cons, if_neg (Nat.ne_of_lt h1)]
        exact Memory.read_of_forall_lt (below h1.le)
      by_cases hv : v = 0
      · have : Memory.write ((b, y) :: m) a v = (b, y) :: m := by simp only [Memory.write, h1, if_true]; exact if_pos hv
        rw [this]
        split
        · next hx => rw [hx, here, hv]
        · rfl
      · have : Memory.write ((b, y) :: m) a v = (a, v) :: (b, y) :: m := by
          simp only [Memory.write, h1, if_true]; exact if_neg hv
        rw [this, Memory.read_cons]
    · by_cases h2 : a = b
      · subst h2
        by_cases hv : v = 0
        · have : Memory.write ((a, y) :: m) a v = m := by simp only [Memory.write, lt_irrefl, if_true, if_false]; exact if_pos hv
          rw [this, Memory.read_cons]
          split
          · next hx => rw [hx, hv, Memory.read_of_forall_lt (below le_rfl)]
          · rfl
        · have : Memory.write ((a, y) :: m) a v = (a, v) :: m := by
            simp only [Memory.write, lt_irrefl, if_true, if_false]; exact if_neg hv
          rw [this, Memory.read_cons, Memory.read_cons]
          split <;> rfl
      · have : Memory.write ((b, y) :: m) a v = (b, y) :: Memory.write m a v := by simp only [Memory.write, h1, h2, if_false]
        rw [this, Memory.read_cons, Memory.read_cons, ih hm]
        by_cases hx : x = b
        · simp [hx, Ne.symm h2]
        · simp [hx]

theorem Memory.wf_clear {m : Memory} (base len : Nat) (h : Memory.wf m) : Memory.wf (Memory.clear m base len) :=
  ⟨h.1.sublist List.filter_sublist, fun c hc => h.2 c (List.mem_of_mem_filter hc)⟩

theorem Memory.mem_clear {m : Memory} {base len : Nat} {c : Host.Cell} (h : c ∈ Memory.clear m base len) : c ∈ m :=
  List.mem_of_mem_filter h

theorem Memory.read_clear (m : Memory) (base len x : Nat) :
    Memory.read (Memory.clear m base len) x = if base ≤ x ∧ x < base + len then 0 else Memory.read m x := by
  induction m with
  | nil => simp [Memory.clear]
  | cons d m ih =>
    obtain ⟨b, y⟩ := d
    have step : Memory.clear ((b, y) :: m) base len =
        if base ≤ b ∧ b < base + len then Memory.clear m base len else (b, y) :: Memory.clear m base len := by
      by_cases hr : base ≤ b ∧ b < base + len
      · rw [if_pos hr]
        simp [Memory.clear, hr.1, hr.2]
      · rw [if_neg hr]
        have : (!(decide (base ≤ b) && decide (b < base + len))) = true := by
          rw [Bool.not_eq_true', ← Bool.not_eq_true]
          simpa using hr
        simp only [Memory.clear, List.filter_cons, this, if_true]
    rw [step]
    by_cases hr : base ≤ b ∧ b < base + len
    · rw [if_pos hr, ih, Memory.read_cons]
      by_cases hx : x = b
      · rw [hx, if_pos hr, if_pos hr]
      · rw [if_neg hx]
    · rw [if_neg hr, Memory.read_cons, Memory.read_cons, ih]
      by_cases hx : x = b
      · rw [if_pos hx, if_pos hx, if_neg (hx ▸ hr)]
      · rw [if_neg hx, if_neg hx]

@[simp] theorem Memory.wf_nil : Memory.wf [] := ⟨List.Pairwise.nil, fun _ h => absurd h List.not_mem_nil⟩

end Sys2Proof.Machine
end

