-- ==== Sys2Proof/Laws/PerInstr.lean ====
section
/-! SUPPORT. What every row is as syntax, one lemma for each constructor: which operands it admits (`OperandsAdmitted`). -/

namespace Sys2Proof.Laws.OperandsAdmitted

set_option Elab.async false

/-- The row admits its operands exactly when the word written to COMMAND is, or is not, a code of the catalogue (10.5), and when
the offset written has no write behaviour of its own; every other row admits them all. -/
def Statement (i : Instr) : Prop :=
  i.wellFormed = true ↔
    match i with
    | .commandIssue _ w => ∃ c : Command, c.code = w.extractLsb' 0 8
    | .unknownCommand _ w => ∀ c : Command, c.code ≠ w.extractLsb' 0 8
    | .registerWrite _ off _ =>
      off ≠ 0x00 ∧ off ≠ 0x10 ∧ off ≠ 0x11 ∧ off ≠ 0x12 ∧ off ≠ 0x13 ∧ off ≠ 0x14 ∧ off ≠ 0x20 ∧ off ≠ 0x21 ∧ off ≠ 0x25
    | _ => True

theorem ofCode_code (c : Command) : Command.ofCode c.code = some c := by cases c <;> decide

theorem code_of_ofCode {b : Byte} {c : Command} (h : Command.ofCode b = some c) : c.code = b := by
  simpa using List.find?_some h

theorem attach (p : Port) : Statement (.attach p) := by simp [Statement, Instr.wellFormed]

theorem detach (p : Port) : Statement (.detach p) := by simp [Statement, Instr.wellFormed]

theorem queryPort (p : Port) : Statement (.queryPort p) := by simp [Statement, Instr.wellFormed]

theorem voteReset (p : Port) : Statement (.voteReset p) := by simp [Statement, Instr.wellFormed]

theorem withdrawVote (p : Port) : Statement (.withdrawVote p) := by simp [Statement, Instr.wellFormed]

theorem start (p : Port) : Statement (.start p) := by simp [Statement, Instr.wellFormed]

theorem setGeometry (p : Port) : Statement (.setGeometry p) := by simp [Statement, Instr.wellFormed]

theorem setTimebase (p : Port) : Statement (.setTimebase p) := by simp [Statement, Instr.wellFormed]

theorem setQuorum (p : Port) : Statement (.setQuorum p) := by simp [Statement, Instr.wellFormed]

theorem setWatermark (p : Port) : Statement (.setWatermark p) := by simp [Statement, Instr.wellFormed]

theorem queryDevice (p : Port) : Statement (.queryDevice p) := by simp [Statement, Instr.wellFormed]

theorem reserve (p : Port) : Statement (.reserve p) := by simp [Statement, Instr.wellFormed]

theorem abandon (p : Port) : Statement (.abandon p) := by simp [Statement, Instr.wellFormed]

theorem publish (p : Port) : Statement (.publish p) := by simp [Statement, Instr.wellFormed]

theorem collect (p : Port) : Statement (.collect p) := by simp [Statement, Instr.wellFormed]

theorem take (p : Port) : Statement (.take p) := by simp [Statement, Instr.wellFormed]

theorem done (p : Port) : Statement (.done p) := by simp [Statement, Instr.wellFormed]

theorem discard (p : Port) : Statement (.discard p) := by simp [Statement, Instr.wellFormed]

theorem readState (p : Port) : Statement (.readState p) := by simp [Statement, Instr.wellFormed]

theorem queryQueue (p : Port) : Statement (.queryQueue p) := by simp [Statement, Instr.wellFormed]

theorem acquire (p : Port) : Statement (.acquire p) := by simp [Statement, Instr.wellFormed]

theorem release (p : Port) : Statement (.release p) := by simp [Statement, Instr.wellFormed]

theorem renew (p : Port) : Statement (.renew p) := by simp [Statement, Instr.wellFormed]

theorem cancelWait (p : Port) : Statement (.cancelWait p) := by simp [Statement, Instr.wellFormed]

theorem queryLock (p : Port) : Statement (.queryLock p) := by simp [Statement, Instr.wellFormed]

theorem defineChannel (p : Port) : Statement (.defineChannel p) := by simp [Statement, Instr.wellFormed]

theorem setChannel (p : Port) : Statement (.setChannel p) := by simp [Statement, Instr.wellFormed]

theorem subscribe (p : Port) : Statement (.subscribe p) := by simp [Statement, Instr.wellFormed]

theorem unsubscribe (p : Port) : Statement (.unsubscribe p) := by simp [Statement, Instr.wellFormed]

theorem suspend (p : Port) : Statement (.suspend p) := by simp [Statement, Instr.wellFormed]

theorem resume (p : Port) : Statement (.resume p) := by simp [Statement, Instr.wellFormed]

theorem close (p : Port) : Statement (.close p) := by simp [Statement, Instr.wellFormed]

theorem freezeChannel (p : Port) : Statement (.freezeChannel p) := by simp [Statement, Instr.wellFormed]

theorem setLease (p : Port) : Statement (.setLease p) := by simp [Statement, Instr.wellFormed]

theorem freezeLock (p : Port) : Statement (.freezeLock p) := by simp [Statement, Instr.wellFormed]

theorem queryChannel (p : Port) : Statement (.queryChannel p) := by simp [Statement, Instr.wellFormed]

theorem querySubscription (p : Port) : Statement (.querySubscription p) := by simp [Statement, Instr.wellFormed]

theorem collision (p : Port) (w : Word) : Statement (.collision p w) := by simp [Statement, Instr.wellFormed]

theorem unknownCommand (p : Port) (w : Word) : Statement (.unknownCommand p w) := by
  simp only [Statement, Instr.wellFormed, commandCode, Option.isNone_iff_eq_none]
  refine ⟨fun h c hc => ?_, fun h => ?_⟩
  · rw [← hc, ofCode_code] at h
    simp at h
  · cases e : Command.ofCode (w.extractLsb' 0 8) with
    | none => rfl
    | some c => exact absurd (code_of_ofCode e) (h c)

theorem fillData (p : Port) (w : Word) : Statement (.fillData p w) := by simp [Statement, Instr.wellFormed]

theorem fillPointer (p : Port) (w : Word) : Statement (.fillPointer p w) := by simp [Statement, Instr.wellFormed]

theorem readData (p : Port) : Statement (.readData p) := by simp [Statement, Instr.wellFormed]

theorem readPointer (p : Port) (w : Word) : Statement (.readPointer p w) := by simp [Statement, Instr.wellFormed]

theorem eventPending (p : Port) (w : Word) : Statement (.eventPending p w) := by simp [Statement, Instr.wellFormed]

theorem eventEnable (p : Port) (w : Word) : Statement (.eventEnable p w) := by simp [Statement, Instr.wellFormed]

theorem eventPriority (p : Port) (h : Half) (w : Word) : Statement (.eventPriority p h w) := by
  simp [Statement, Instr.wellFormed]

theorem threshold (p : Port) (w : Word) : Statement (.threshold p w) := by simp [Statement, Instr.wellFormed]

theorem tickCount (p : Port) (h : Half) : Statement (.tickCount p h) := by simp [Statement, Instr.wellFormed]

theorem registerWrite (p : Port) (off : BitVec 6) (w : Word) : Statement (.registerWrite p off w) := by
  simp [Statement, Instr.wellFormed, plainOffset]

theorem powerOnReset : Statement .powerOnReset := by simp [Statement, Instr.wellFormed]

theorem pornRelease : Statement .pornRelease := by simp [Statement, Instr.wellFormed]

theorem portReset (p : Port) : Statement (.portReset p) := by simp [Statement, Instr.wellFormed]

theorem baseTick : Statement .baseTick := by simp [Statement, Instr.wellFormed]

theorem lifetimeExpiry (i : SlotId) : Statement (.lifetimeExpiry i) := by simp [Statement, Instr.wellFormed]

theorem leaseExpiry (l : LockId) : Statement (.leaseExpiry l) := by simp [Statement, Instr.wellFormed]

theorem coolDownExpiry (p : Port) : Statement (.coolDownExpiry p) := by simp [Statement, Instr.wellFormed]

theorem authorizationExpiry : Statement .authorizationExpiry := by simp [Statement, Instr.wellFormed]

theorem faultScoreReport (p : Port) (k : ReportKind) : Statement (.faultScoreReport p k) := by
  simp [Statement, Instr.wellFormed]

theorem fanOutStart : Statement .fanOutStart := by simp [Statement, Instr.wellFormed]

theorem placementEvent : Statement .placementEvent := by simp [Statement, Instr.wellFormed]

theorem fanOutEnd : Statement .fanOutEnd := by simp [Statement, Instr.wellFormed]

theorem commandIssue (p : Port) (w : Word) : Statement (.commandIssue p w) := by
  simp only [Statement, Instr.wellFormed, commandCode, Option.isSome_iff_exists]
  exact ⟨fun ⟨c, h⟩ => ⟨c, code_of_ofCode h⟩, fun ⟨c, h⟩ => ⟨c, h ▸ ofCode_code c⟩⟩

theorem refclkCycle : Statement .refclkCycle := by simp [Statement, Instr.wellFormed]

end Sys2Proof.Laws.OperandsAdmitted
end

