-- ==== Sys2Proof/Laws/Slots.lean ====
section
/-! SUPPORT. What a release does to slot records, port records and due shares, and the pool after releases and after a purge. -/

namespace Sys2Proof.Machine

set_option Elab.async false

/-- Two port records agree in everything but the account. -/
def PortRecord.sameButAccount (r r' : PortRecord) : Prop :=
  r'.state = r.state ∧ r'.identity = r.identity ∧ r'.quota = r.quota ∧ r'.score = r.score ∧ r'.coolDown = r.coolDown ∧
  r'.vote = r.vote ∧ r'.credits = r.credits

theorem PortRecord.sameButAccount_refl (r : PortRecord) : r.sameButAccount r := ⟨rfl, rfl, rfl, rfl, rfl, rfl, rfl⟩

theorem PortRecord.sameButAccount_trans {a b c : PortRecord} (h : a.sameButAccount b) (k : b.sameButAccount c) :
    a.sameButAccount c := by
  unfold PortRecord.sameButAccount at *
  simp_all

/-- A release changes accounts only. -/
theorem State.release_ports (s : State) (i : SlotId) (p : Port) :
    (s.ports.get p).sameButAccount ((s.release i).ports.get p) := by
  unfold State.release State.freeSlot PerPort.credit
  split
  · cases (s.slots.get i).use.account? with
    | none => exact PortRecord.sameButAccount_refl _
    | some q =>
      simp only [PerPort.get_modify]
      split
      · next h =>
        subst h
        exact ⟨rfl, rfl, rfl, rfl, rfl, rfl, rfl⟩
      · exact PortRecord.sameButAccount_refl _
  · exact PortRecord.sameButAccount_refl _

theorem State.releaseAll_ports (is : List SlotId) (s : State) (p : Port) :
    (s.ports.get p).sameButAccount ((s.releaseAll is).ports.get p) := by
  induction is generalizing s with
  | nil => exact PortRecord.sameButAccount_refl _
  | cons i is ih => exact PortRecord.sameButAccount_trans (State.release_ports s i p) (ih (s.release i))

/-- A release leaves the records of other slots. -/
theorem State.release_slots_other (s : State) {i j : SlotId} (h : j ≠ i) : (s.release i).slots.get j = s.slots.get j := by
  unfold State.release State.freeSlot State.updSlot
  split
  · exact Table.get_set_other _ _ h
  · simp only [Table.get_modify, if_neg h]

/-- A released slot is FREE with count 0, or keeps its fields with a count one lower. -/
theorem State.release_slots_same (s : State) (i : SlotId) :
    (s.release i).slots.get i =
      if (s.slots.get i).refs = 1 then Slot.free else { s.slots.get i with refs := (s.slots.get i).refs - 1 } := by
  unfold State.release State.freeSlot State.updSlot
  split <;> simp [Table.get_modify]

/-- Every other slot's record stays through releases of one slot; the slot itself is FREE or keeps its fields. -/
theorem State.release_use (s : State) (i j : SlotId) :
    ((s.release i).slots.get j).use = (s.slots.get j).use ∨ j = i ∧ ((s.release i).slots.get j).use = .free := by
  by_cases h : j = i
  · subst h
    rw [State.release_slots_same]
    split
    · exact .inr ⟨rfl, rfl⟩
    · exact .inl rfl
  · exact .inl (by rw [State.release_slots_other s h])

/-- The free list grows at its tail, by a slot whose last reference went. -/
theorem State.release_freeList (s : State) (i : SlotId) :
    (s.release i).freeList = if (s.slots.get i).refs = 1 then s.freeList ++ [i] else s.freeList := by
  unfold State.release State.freeSlot State.updSlot
  split <;> rfl

/-! ### Releases depend on the pool alone -/

/-- Two states agree in what a release reads and writes: slot records, free list, port records and due shares. -/
def State.SamePool (s t : State) : Prop :=
  t.slots = s.slots ∧ t.freeList = s.freeList ∧ t.ports = s.ports ∧ t.due = s.due

theorem State.samePool_refl (s : State) : s.SamePool s := ⟨rfl, rfl, rfl, rfl⟩

theorem State.samePool_trans {s t u : State} (h : s.SamePool t) (k : t.SamePool u) : s.SamePool u := by
  unfold State.SamePool at *
  simp_all

/-- Releases of one slot from such states leave such states. -/
theorem State.samePool_release {s t : State} (h : s.SamePool t) (i : SlotId) : (s.release i).SamePool (t.release i) := by
  obtain ⟨h1, h2, h3, h4⟩ := h
  unfold State.SamePool State.release State.freeSlot State.updSlot
  rw [h1]
  split <;> simp [h2, h3, h4]

theorem State.samePool_releaseAll (is : List SlotId) {s t : State} (h : s.SamePool t) :
    (s.releaseAll is).SamePool (t.releaseAll is) := by
  induction is generalizing s t with
  | nil => exact h
  | cons i is ih => exact ih (State.samePool_release h i)

@[simp] theorem State.releaseAll_append (s : State) (is js : List SlotId) :
    s.releaseAll (is ++ js) = (s.releaseAll is).releaseAll js := List.foldl_append

@[simp] theorem State.releaseAll_nil (s : State) : s.releaseAll [] = s := rfl

@[simp] theorem State.releaseAll_cons (s : State) (i : SlotId) (is : List SlotId) :
    s.releaseAll (i :: is) = (s.release i).releaseAll is := rfl

/-! ### The purge (R132) -/

/-- The references a purge releases, in its order: reservation, entries oldest first, hold. -/
theorem State.purge_pool (s : State) (p : Port) :
    let released := s.releaseAll (((s.reservations.get p).toList ++ (s.queues.get p).map (fun e => e.slot)) ++
      (s.holds.get p).toList.map fun h => h.entry.slot)
    (s.purge p).slots = released.slots ∧ (s.purge p).freeList = released.freeList ∧ (s.purge p).due = released.due ∧
    ∀ q, (s.purge p).ports.get q =
      if q = p then { released.ports.get q with credits := 4, vote := false } else released.ports.get q := by
  intro released
  have h : released.SamePool (((s.updWindow p Window.discard).purgeReservation p).purgeQueue p) := by
    have h1 : ((s.releaseAll (s.reservations.get p).toList)).SamePool
        ((s.updWindow p Window.discard).purgeReservation p) := by
      unfold State.purgeReservation
      cases e : s.reservations.get p <;> simp only [State.updWindow_reservations, e]
      · exact ⟨rfl, rfl, rfl, rfl⟩
      · next i =>
        exact State.samePool_trans (t := (s.updWindow p Window.discard).release i)
          (State.samePool_release (s := s) (t := s.updWindow p Window.discard) ⟨rfl, rfl, rfl, rfl⟩ i) ⟨rfl, rfl, rfl, rfl⟩
    have q1 : ((s.updWindow p Window.discard).purgeReservation p).queues = s.queues := by simp
    have q2 : ((s.updWindow p Window.discard).purgeReservation p).holds = s.holds := by simp
    generalize (s.updWindow p Window.discard).purgeReservation p = t at *
    have h2 : ((s.releaseAll (s.reservations.get p).toList).releaseAll ((s.queues.get p).map fun e => e.slot)).SamePool
        (t.dropEntries p fun _ => true) := by
      unfold State.dropEntries
      simp only [q1, List.filter_true]
      exact State.samePool_releaseAll _ (State.samePool_trans h1 (u := t.setQueue p _) ⟨rfl, rfl, rfl, rfl⟩)
    have q3 : (t.dropEntries p fun _ => true).holds = s.holds := by simp [q2]
    unfold State.purgeQueue State.emptyHold
    simp only [q3]
    show (s.releaseAll _).SamePool _
    rw [State.releaseAll_append, State.releaseAll_append]
    cases e : s.holds.get p with
    | none => exact h2
    | some x =>
      exact State.samePool_trans (t := (t.dropEntries p fun _ => true).release x.entry.slot) (State.samePool_release h2 _)
        ⟨rfl, rfl, rfl, rfl⟩
  obtain ⟨h1, h2, h3, h4⟩ := h
  refine ⟨by simp [State.purge, h1], by simp [State.purge, h2], by simp [State.purge, h4], fun q => ?_⟩
  by_cases e : q = p <;>
  simp [State.purge, State.withdrawVote, State.orphanPublishes, h3, e, State.updPort, PerPort.get_modify, Config.credits]

/-! ### Due shares -/

/-- A release of a slot that is not due changes nothing that is due. -/
theorem State.release_due (s : State) (i : SlotId) (h : i ∉ s.due.slots) : (s.release i).due = s.due := by
  unfold State.release State.freeSlot
  split
  · have e : s.due.slots.filter (fun j => decide (j ≠ i)) = s.due.slots :=
      List.filter_eq_self.mpr fun j hj => decide_eq_true (ne_of_mem_of_not_mem hj h)
    show { s.due with slots := s.due.slots.filter fun j => decide (j ≠ i) } = s.due
    rw [e]
  · rfl

/-- Likewise for releases of that slot alone. -/
theorem State.releaseAll_due (is : List SlotId) (i : SlotId) (hi : ∀ j ∈ is, j = i) (s : State) (h : i ∉ s.due.slots) :
    (s.releaseAll is).due = s.due := by
  induction is generalizing s with
  | nil => rfl
  | cons j is ih =>
    have hj : j = i := hi j (by simp)
    subst hj
    have e := s.release_due j h
    show (List.foldl State.release (s.release j) is).due = _
    rw [← e]
    exact ih (fun k hk => hi k (by simp [hk])) _ (by rwa [e])

/-- An expiry of a slot that is not due, port by port, changes nothing that is due. -/
theorem State.expireEntries_due (s : State) (i : SlotId) (ch : ChannelId) (p : Port) (h : i ∉ s.due.slots) :
    (s.expireEntries i ch p).due = s.due := by
  unfold State.expireEntries
  split
  · simp only [State.countExpired_frame, State.dropEntries]
    exact State.releaseAll_due _ i (by intro j hj; simp at hj; obtain ⟨x, ⟨_, h1⟩, h2⟩ := hj; rw [← h2, h1]) _ h
  · rfl

/-- Likewise at a row of ports. -/
theorem State.expireAll_due (ps : List Port) (i : SlotId) (ch : ChannelId) (s : State) (h : i ∉ s.due.slots) :
    (ps.foldl (fun t q => t.expireEntries i ch q) s).due = s.due := by
  induction ps generalizing s with
  | nil => rfl
  | cons q ps ih =>
    have e := s.expireEntries_due i ch q h
    rw [List.foldl_cons, ih _ (by rwa [e]), e]

/-- Likewise the withdrawal of a current value. -/
theorem State.withdrawCurrent_due (s : State) (ch : ChannelId) (i : SlotId) (h : i ∉ s.due.slots) :
    (s.withdrawCurrent ch i).due = s.due := by
  unfold State.withdrawCurrent
  split
  · rfl
  · split
    · rw [State.release_due] <;> simp [h]
    · rfl

/-- Likewise the expiry of a LIVE slot. -/
theorem State.expireLive_due (s : State) (i : SlotId) (m : Message) (h : i ∉ s.due.slots) : (s.expireLive i m).due = s.due := by
  unfold State.expireLive
  rw [State.withdrawCurrent_due, State.expireAll_due] <;> simp [State.expireAll_due, h]

/-- Likewise the withdrawal of requests of that slot. -/
theorem State.withdrawAll_due (rs : List Request) (o : PublishOutcome) (i : SlotId) (hr : ∀ r ∈ rs, r.slot = i) (s : State)
    (h : i ∉ s.due.slots) : (rs.foldl (State.withdraw · o) s).due = s.due := by
  induction rs generalizing s with
  | nil => rfl
  | cons r rs ih =>
    have e : (s.withdraw o r).due = s.due := by
      unfold State.withdraw
      split
      · rw [hr r (by simp), State.release_due] <;> simp [h]
      · rfl
    rw [List.foldl_cons, ih (fun k hk => hr k (by simp [hk])) _ (by rwa [e]), e]

/-- Likewise its expiry, whatever its state. -/
theorem State.expireSlot_due (s : State) (i : SlotId) (m : Message) (h : i ∉ s.due.slots) : (s.expireSlot i m).due = s.due := by
  unfold State.expireSlot
  split
  · exact State.withdrawAll_due _ _ i (by simp) _ h
  · rw [State.expireLive_due] <;> simp [h]
  · exact s.expireLive_due i m h
  · rfl

/-- A slot's share of a tick, taken, is due no more, and every other share stays. -/
theorem State.takeLifetime_due (s : State) (i : SlotId) :
    (s.takeLifetime i).due = { s.due with slots := s.due.slots.filter fun j => decide (j ≠ i) } := by
  simp only [State.takeLifetime]
  split
  · rfl
  · split
    · rw [State.expireSlot_due]
      simp
    · rfl

end Sys2Proof.Machine
end

