-- ==== Sys2Proof/Tests/Slice0.lean ====
section
/-! SUPPORT. Tests: ill-formed rows refused, one step of each row on a small state, and a witness for the hypotheses of every
statement of Certificates/Slice0/Obligations.lean. -/

namespace Sys2Proof.Tests

set_option Elab.async false

open Sys2Proof Sys2Proof.Machine

/-! ### WellFormed: one ill-formed row for each check -/

theorem test_wellFormed_refuses :
    (Instr.commandIssue .A 0x00FF).wellFormed = false ∧ (Instr.unknownCommand .A 0x0001).wellFormed = false ∧
    ∀ off ∈ [(0x00 : BitVec 6), 0x10, 0x11, 0x12, 0x13, 0x14, 0x20, 0x21, 0x25],
      (Instr.registerWrite .A off 0).wellFormed = false := by decide

theorem test_wellFormed_admits :
    (Instr.commandIssue .A 0xAB33).wellFormed = true ∧ (Instr.unknownCommand .A 0x0034).wellFormed = true ∧
    (Instr.registerWrite .A 0x06 0).wellFormed = true ∧ (Instr.registerWrite .A 0x3F 0).wellFormed = true := by decide

theorem test_noRowHasBits : decodeTableWord 16 0x0001 = none ∧ State.reset.withFetchWord 16 1 = State.reset := by
  exact ⟨rfl, rfl⟩

/-! ### Small states -/

/-- The next state, if there is one. -/
def nextOf (o : Host.Outcome State Fault Refusal) : Option State :=
  match o with
  | .next t => some t
  | .fault _ => none
  | .refused _ => none

/-- The fault, if there is one. -/
def faultOf (o : Host.Outcome State Fault Refusal) : Option Fault :=
  match o with
  | .fault e => some e
  | .next _ => none
  | .refused _ => none

/-- What one step shows of the state after it. -/
def after {α : Type} (i : Instr) (s : State) (f : State → α) : Option α := (nextOf (exec i s)).map f

/-- RESPONSE and RESULT0 to RESULT5 of port `p` after one step. -/
def shows (i : Instr) (s : State) (p : Port) : Option (Byte × Words6) :=
  after i s fun t => ((t.windows.get p).response, (t.windows.get p).results)

/-- `s` with command `c` and arguments `a` ISSUED at port `p`. -/
def issuing (s : State) (p : Port) (c : Command) (a : Words6) : State :=
  { s with windows := s.windows.set p { s.windows.get p with issued := some { command := c, args := a } } }

theorem issues_issuing (s : State) (p : Port) (c : Command) (a : Words6) (h : s.porAsserted = false) :
    (issuing s p c a).issues p c a := by
  refine And.intro h ?_
  cases p <;> rfl

/-- A subscription of the given depth and policy that accepts every tag. -/
def sub (depth : Nat) (policy : Policy) : Subscription :=
  { depth := depth, policy := policy, tagMatch := 0, tagMask := 0, lost := 0, expired := 0, superseded := 0, new := false }

/-- A channel of the given kind to which A, B and D subscribe and on which every port may publish. -/
def channel (kind : ChannelKind) (current : Option SlotId) : ChannelDef :=
  { phase := .active, kind := kind, publishers := 0xF, lifetime := 0
    subs := { a := some { sub 4 .keepOldest with new := current.isSome }, b := some (sub 1 .keepNewest), c := none
              d := some (sub 2 .keepOldest) }
    current := current }

/-- A message from A of 3 bytes with tag 5. -/
def message (phase : MessagePhase) (ch : ChannelId) (lifetime : Option Nat) : Message :=
  { phase := phase, channel := ch, account := .A, seq := 9, tag := 5, length := 3, lifetime := lifetime }

/-- The delivery entry of such a message. -/
def entry (i : SlotId) (ch : ChannelId) : Entry := { slot := i, channel := ch, seq := 9, tag := 5, length := 3, publisher := .A }

/-- In RUN with A, B and C ATTACHED and D OFFLINE; channel 0 STREAM, channel 1 STATE with slot 2 current; slot 0 A's reservation on
channel 0, slot 1 LIVE in B's queue and in C's read hold; one completion record of A; lock 0 held by A with B waiting, lock 2 held
by B; 3 and 4 free, watermark 2. -/
def small : State :=
  let attached : PortRecord :=
    { state := .attached, identity := 7, quota := 16, account := 0, score := 0, coolDown := 0, vote := false, credits := 4 }
  { State.reset with
    slots := (((State.reset.slots.set 0 { use := .filling 0 .A, refs := 1 }).set 1
      { use := .message (message .live 0 none), refs := 2 }).set 2 { use := .message (message .live 1 (some 1)), refs := 1 })
    freeList := [3, 4]
    watermark := 2
    reservations := { a := some 0, b := none, c := none, d := none }
    channels := (State.reset.channels.set 0 { defn := some (channel .stream none), seq := 9, frozen := false }).set 1
      { defn := some (channel .state (some 2)), seq := 9, frozen := false }
    completions :=
      { a := [{ channel := 0, seq := 8, outcome := .delivered
                counts := { placed := 2, filtered := 1, offline := 1, dropped := 0 } }]
        b := [], c := [], d := [] }
    queues := { a := [], b := [entry 1 0], c := [], d := [] }
    holds := { a := none, b := none, c := some { entry := entry 1 0, source := .stream, pointer := 2 }, d := none }
    locks := (State.reset.locks.set 0
      { grant := some { holder := .A, number := 7, lease := some 1 }, lastIssued := 7, leaseSetting := 2, waiters := [.B]
        revoked := none, frozen := false }).set 2
      { grant := some { holder := .B, number := 1, lease := none }, lastIssued := 1, leaseSetting := 0, waiters := []
        revoked := some { number := 0, port := .A }, frozen := false }
    waits := { a := none, b := some 0, c := none, d := none }
    ports := { a := { attached with account := 3, credits := 3 }, b := attached, c := attached, d := PortRecord.initial }
    device := { state := .run, quorum := 3, authorization := 0 } }

/-- `small` in CONFIG. -/
def config : State := { small with device := { small.device with state := .config } }

/-- `small` with a request for `m` in slot 5 at the head of the publish queue. -/
def queued (m : Message) : State :=
  { small with
    slots := small.slots.set 5 { use := .message m, refs := 1 }
    publishQueue := [{ slot := 5, publisher := .A, orphaned := false }] }

/-- `small` spreading message `m` of slot 5, the cursor at `c`. -/
def spreading (m : Message) (c : Cursor) : State :=
  { small with
    slots := small.slots.set 5 { use := .message m, refs := 1 }
    engine := some
      { request := { slot := 5, publisher := .A, orphaned := false }, cursor := c
        counts := { placed := 0, filtered := 0, offline := 0, dropped := 0 }, expired := false } }

/-- `small` with D ISOLATED, `n` ticks of its cool-down left and a tick due at the port context unit. -/
def cooling (n : Nat) : State :=
  { small with
    ports := small.ports.set .D { PortRecord.initial with state := .isolated, coolDown := n, score := 255 }
    due := { small.due with ports := [.D] } }

/-- `small` with the shares of a tick due everywhere. -/
def ticked : State :=
  { small with due := { slots := [2, 5], locks := [0], ports := [.D], authorization := true } }

/-- `small` with the lock table's tick due: lock 0 held by A (B waiting) and lock 1 held by C end with it, lock 3's lease does not. -/
def leased : State :=
  { small with
    locks := (small.locks.set 1
      { grant := some { holder := .C, number := 2, lease := some 1 }, lastIssued := 2, leaseSetting := 9, waiters := []
        revoked := none, frozen := false }).set 3
      { grant := some { holder := .A, number := 5, lease := some 5 }, lastIssued := 5, leaseSetting := 9, waiters := []
        revoked := none, frozen := false }
    due := { small.due with locks := [0, 1] } }

/-! ### One step of each row -/

theorem test_attach :
    shows (.attach .D) (issuing small .D .attach { w0 := 1, w1 := 1 }) .D = some (0x00, { w3 := 4 }) ∧
    shows (.attach .D) (issuing small .D .attach { w0 := 1, w1 := 129 }) .D = some (0x21, {}) := by decide +kernel

theorem test_detach :
    after (.detach .A) (issuing small .A .detach {}) (fun t => ((t.ports.get .A).state, t.freeList, (t.locks.get 0).grant)) =
      some (.offline, [3, 4, 0], some { holder := .B, number := 8, lease := some 2 }) := by decide +kernel

theorem test_queryPort :
    shows (.queryPort .B) (issuing small .B .queryPort { w0 := 0 }) .B =
      some (0x00, { w0 := 1, w1 := 7, w2 := 3, w3 := 16, w4 := 0, w5 := 0xFF03 }) ∧
    shows (.queryPort .B) (issuing small .B .queryPort { w0 := 0xFFFF, w1 := 1 }) .B =
      some (0x00, { w3 := 1, w5 := 1 }) := by decide +kernel

theorem test_voteReset :
    shows (.voteReset .A) (issuing small .A .voteReset {}) .A = some (0x00, { w0 := 1, w1 := 3 }) ∧
    after (.voteReset .A) (issuing small .A .voteReset {}) (fun t => ((t.events.get .B).pending, (t.events.get .A).pending)) =
      some (0x800, 0) := by decide +kernel

theorem test_withdrawVote :
    shows (.withdrawVote .A) (issuing small .A .withdrawVote {}) .A = some (0x00, {}) := by decide +kernel

theorem test_start :
    after (.start .A) (issuing config .A .start {}) (fun t => t.device.state) = some .run ∧
    shows (.start .A) (issuing small .A .start {}) .A = some (0x22, {}) := by decide +kernel

theorem test_setGeometry :
    shows (.setGeometry .A) (issuing config .A .setGeometry { w0 := 128 }) .A =
      some (0x00, { w0 := 64, w1 := 128, w2 := 2 }) := by decide +kernel

theorem test_setTimebase :
    after (.setTimebase .A) (issuing config .A .setTimebase { w0 := 0xFFFF }) (fun t => (t.time.prescale, t.time.count)) =
      some (65536, 0) := by decide +kernel

theorem test_setQuorum :
    shows (.setQuorum .A) (issuing config .A .setQuorum { w0 := 2 }) .A = some (0x00, { w0 := 2 }) ∧
    shows (.setQuorum .A) (issuing config .A .setQuorum { w0 := 5 }) .A = some (0x21, {}) := by decide +kernel

theorem test_setWatermark :
    shows (.setWatermark .A) (issuing config .A .setWatermark { w0 := 128 }) .A = some (0x00, { w0 := 128 }) ∧
    shows (.setWatermark .A) (issuing config .A .setWatermark { w0 := 129 }) .A = some (0x21, {}) := by decide +kernel

theorem test_queryDevice :
    shows (.queryDevice .D) (issuing small .D .queryDevice {}) .D =
      some (0x00, { w0 := 1 + 12 + 256 * 64, w1 := 0, w2 := 24999, w3 := 2, w4 := 128, w5 := 2 }) := by decide +kernel

theorem test_reserve :
    shows (.reserve .B) (issuing small .B .reserve { w0 := 0 }) .B = some (0x00, { w0 := 3, w1 := 64, w2 := 1 }) ∧
    after (.reserve .B) (issuing small .B .reserve { w0 := 0 }) (fun t => ((t.events.get .C).pending, (t.events.get .D).pending)) =
      some (0x400, 0) := by decide +kernel

theorem test_abandon :
    after (.abandon .A) (issuing small .A .abandon {}) (fun t => (t.freeList, t.reservations.get .A, (t.ports.get .A).account)) =
      some ([3, 4, 0], none, 2) := by decide +kernel

theorem test_publish :
    shows (.publish .A) (issuing small .A .publish { w0 := 64, w1 := 5 }) .A = some (0x00, { w0 := 10, w1 := 0, w2 := 2 }) ∧
    shows (.publish .A) (issuing small .A .publish { w0 := 65, w1 := 5 }) .A = some (0x27, {}) := by decide +kernel

theorem test_collect :
    shows (.collect .A) (issuing small .A .collect {}) .A = some (0x00, { w1 := 8, w3 := 0x0102, w4 := 0x0001 }) := by
  decide +kernel

theorem test_take :
    shows (.take .B) (issuing small .B .take { w0 := 0xFFFF }) .B =
      some (0x00, { w1 := 9, w2 := 5, w3 := 3, w4 := 0x0100 }) ∧
    shows (.take .B) (issuing small .B .take { w0 := 31 }) .B = some (0x23, {}) := by decide +kernel

theorem test_done :
    after (.done .C) (issuing small .C .done {}) (fun t => (t.holds.get .C, (t.slots.get 1).refs)) = some (none, 1) := by
  decide +kernel

theorem test_discard :
    after (.discard .B) (issuing small .B .discard { w0 := 0 }) (fun t => (t.queues.get .B, (t.slots.get 1).refs)) =
      some ([], 1) := by decide +kernel

theorem test_readState :
    shows (.readState .A) (issuing small .A .readState { w0 := 0xFFFF }) .A =
      some (0x00, { w0 := 1, w1 := 9, w2 := 5, w3 := 3, w4 := 0x0200, w5 := 1 }) ∧
    shows (.readState .A) (issuing small .A .readState { w0 := 0 }) .A = some (0x22, {}) := by decide +kernel

theorem test_queryQueue :
    shows (.queryQueue .C) (issuing small .C .queryQueue { w0 := 0xFFFF }) .C =
      some (0x00, { w2 := 1, w3 := 0, w4 := 9, w5 := 2 }) := by decide +kernel

theorem test_acquire :
    shows (.acquire .C) (issuing small .C .acquire { w0 := 0, w1 := 1 }) .C = some (0x01, { w0 := 2 }) ∧
    shows (.acquire .C) (issuing small .C .acquire { w0 := 0, w1 := 0 }) .C = some (0x13, { w0 := 0 }) := by decide +kernel

theorem test_release :
    shows (.release .A) (issuing small .A .release { w0 := 0, w1 := 7 }) .A = some (0x00, { w0 := 1, w1 := 1 }) ∧
    shows (.release .A) (issuing small .A .release { w0 := 2, w1 := 0 }) .A = some (0x1C, {}) := by decide +kernel

theorem test_renew :
    shows (.renew .A) (issuing small .A .renew { w0 := 0, w1 := 7 }) .A = some (0x00, { w0 := 2 }) ∧
    shows (.renew .A) (issuing small .A .renew { w0 := 0, w1 := 6 }) .A = some (0x2D, {}) := by decide +kernel

theorem test_cancelWait :
    after (.cancelWait .B) (issuing small .B .cancelWait { w0 := 0 }) (fun t => ((t.locks.get 0).waiters, t.waits.get .B)) =
      some ([], none) ∧
    shows (.cancelWait .A) (issuing small .A .cancelWait { w0 := 0 }) .A = some (0x1D, { w0 := 1, w1 := 7 }) := by
  decide +kernel

theorem test_queryLock :
    shows (.queryLock .B) (issuing small .B .queryLock { w0 := 0 }) .B =
      some (0x00, { w0 := 0x0001, w1 := 0x0101, w2 := 2, w3 := 1 }) ∧
    shows (.queryLock .A) (issuing small .A .queryLock { w0 := 2 }) .A = some (0x00, { w0 := 0x0103 }) := by decide +kernel

theorem test_defineChannel :
    shows (.defineChannel .A) (issuing small .A .defineChannel { w0 := 31, w4 := 7 }) .A = some (0x00, {}) ∧
    shows (.defineChannel .A) (issuing small .A .defineChannel { w0 := 31, w4 := 8 }) .A = some (0x2D, {}) := by decide +kernel

theorem test_setChannel :
    after (.setChannel .A) (issuing small .A .setChannel { w0 := 0, w2 := 3, w3 := 6, w4 := 7 })
      (fun t => (t.defn? 0).map fun d => (d.publishers, d.lifetime)) = some (some (3, 6)) := by decide +kernel

theorem test_subscribe :
    shows (.subscribe .A) (issuing small .A .subscribe { w0 := 0x0200, w1 := 0x0110, w4 := 7 }) .A = some (0x00, {}) ∧
    shows (.subscribe .A) (issuing small .A .subscribe { w0 := 0x0200, w1 := 0x0111, w4 := 7 }) .A = some (0x21, {}) := by
  decide +kernel

theorem test_unsubscribe :
    shows (.unsubscribe .A) (issuing small .A .unsubscribe { w0 := 0x0100, w4 := 7 }) .A = some (0x00, { w0 := 1 }) := by
  decide +kernel

theorem test_suspend :
    after (.suspend .A) (issuing small .A .suspend { w0 := 0, w4 := 7 })
      (fun t => ((t.events.get .A).pending, (t.events.get .C).pending, (t.events.get .D).pending)) = some (0x200, 0, 0) := by
  decide +kernel

theorem test_resume :
    shows (.resume .A) (issuing small .A .resume { w0 := 0, w4 := 7 }) .A = some (0x22, {}) := by decide +kernel

theorem test_close :
    shows (.close .A) (issuing small .A .close { w0 := 0, w4 := 7 }) .A = some (0x00, { w1 := 1 }) := by decide +kernel

theorem test_freezeChannel :
    after (.freezeChannel .A) (issuing small .A .freezeChannel { w0 := 1, w4 := 7 }) (fun t => (t.channels.get 1).frozen) =
      some true := by decide +kernel

theorem test_setLease :
    after (.setLease .A) (issuing small .A .setLease { w0 := 15, w1 := 9, w4 := 7 }) (fun t => (t.locks.get 15).leaseSetting) =
      some 9 := by decide +kernel

theorem test_freezeLock :
    after (.freezeLock .A) (issuing small .A .freezeLock { w0 := 15, w4 := 7 }) (fun t => (t.locks.get 15).frozen) =
      some true ∧
    shows (.freezeLock .B) (issuing small .B .freezeLock { w0 := 15, w4 := 7 }) .B = some (0x2F, {}) := by decide +kernel

theorem test_queryChannel :
    shows (.queryChannel .A) (issuing small .A .queryChannel { w0 := 1 }) .A =
      some (0x00, { w0 := 1, w1 := 1, w2 := 15, w3 := 0, w4 := 9, w5 := 0x000B }) := by decide +kernel

theorem test_querySubscription :
    shows (.querySubscription .A) (issuing small .A .querySubscription { w0 := 0x0100 }) .A =
      some (0x00, { w0 := 0x0101 }) ∧
    shows (.querySubscription .A) (issuing small .A .querySubscription { w0 := 0x0100, w1 := 1 }) .A = some (0x21, {}) := by
  decide +kernel

theorem test_collision :
    after (.collision .A 0x12) (issuing small .A .take {}) (fun t => ((t.windows.get .A).lastFault, t.reports)) =
      some (0x1231, [{ port := .A, kind := .fault }]) := by decide +kernel

theorem test_unknownCommand :
    after (.unknownCommand .A 0xFF) small (fun t => ((t.windows.get .A).response, (t.windows.get .A).lastFault)) =
      some (0x20, 0xFF20) := by decide +kernel

theorem test_fillData :
    after (.fillData .A 0xBEEF) small (fun t => (Memory.read t.payload 0, Memory.read t.payload 1, t.payload)) =
      some (0xEF, 0xBE, [(0, 0xEF), (1, 0xBE)]) := by decide +kernel

theorem test_fillPointer :
    after (.fillPointer .A 62) small (fun t => (t.windows.get .A).fillPointer) = some 62 ∧
    after (.fillPointer .A 64) small (fun t => ((t.windows.get .A).fillPointer, (t.windows.get .A).lastFault)) =
      some (0, 0x2121) := by decide +kernel

theorem test_readData :
    after (.readData .C) { small with payload := [(66, 0xAA), (67, 0xBB)] }
      (fun t => ((t.windows.get .C).readData, (t.holds.get .C).map fun h => h.pointer)) = some (0x00AA, some 4) := by
  decide +kernel

theorem test_readPointer :
    after (.readPointer .C 0) small (fun t => (t.holds.get .C).map fun h => h.pointer) = some (some 0) := by decide +kernel

theorem test_eventPending :
    after (.eventPending .A 0x0001) (small.raise .A .fault) (fun t => (t.events.get .A).pending) = some 0 := by decide +kernel

theorem test_eventEnable : after (.eventEnable .A 0xFFFF) small (fun t => (t.events.get .A).enable) = some 0xFFF := by
  decide +kernel

theorem test_eventPriority :
    after (.eventPriority .A .low 0x0003) small (fun t => (t.events.get .A).priority) = some 3 ∧
    after (.eventPriority .A .high 0xAA01) small (fun t => (t.events.get .A).priority) = some 0x010000 := by decide +kernel

theorem test_threshold : after (.threshold .A 0xFFFE) small (fun t => (t.events.get .A).threshold) = some 2 := by
  decide +kernel

theorem test_tickCount :
    after (.tickCount .A .low) { small with time := { small.time with ticks := 0x12345678 } }
      (fun t => ((t.windows.get .A).readData, (t.windows.get .A).capture)) = some (0x5678, 0x1234) := by decide +kernel

theorem test_registerWrite :
    after (.registerWrite .A 0x06 0x1234) small (fun t => t.readWindow .A 0x06) = some 0x1234 ∧
    after (.registerWrite .A 0x08 0x1234) small (fun t => decide (t = small)) = some true := by decide +kernel

theorem test_powerOnReset :
    after .powerOnReset small (fun t => decide (t = { State.reset with porAsserted := true })) = some true := by decide +kernel

theorem test_pornRelease :
    after .pornRelease { State.reset with porAsserted := true } (fun t => decide (t = State.reset)) = some true := by
  decide +kernel

theorem test_portReset :
    after (.portReset .B) small (fun t => ((t.ports.get .B).state, t.queues.get .B, t.waits.get .B, (t.locks.get 2).grant)) =
      some (.offline, [], none, none) := by decide +kernel

theorem test_baseTick :
    after .baseTick { small with time := { prescale := 1, count := 0, ticks := 0 } } (fun t => (t.time.ticks, t.due.slots, t.due.locks)) =
      some (1, [2], [0]) := by decide +kernel

theorem test_refclkCycle : after .refclkCycle small (fun t => t.time.count) = some 1 := by decide +kernel

theorem test_lifetimeExpiry :
    after (.lifetimeExpiry 2) ticked (fun t => (t.slots.get 2, (t.defn? 1).map fun d => d.current, (t.events.get .A).pending)) =
      some (Slot.free, some none, 0x100) := by decide +kernel

theorem test_leaseExpiry :
    after (.leaseExpiry 0) ticked (fun t => ((t.locks.get 0).grant, (t.locks.get 0).revoked, t.reports)) =
      some (some { holder := .B, number := 8, lease := some 2 }, some { number := 7, port := .A },
        [{ port := .A, kind := .leaseExpiry }]) := by decide +kernel

/-- The lock table takes its tick as one event: locks 0 and 1 expire together, lock 3's lease falls by one, nothing stays due. -/
theorem test_leaseExpiry_takes_the_whole_tick :
    after (.leaseExpiry 1) leased
      (fun t => ((t.locks.get 0).grant.map fun g => g.holder, (t.locks.get 1).grant, (t.locks.get 3).grant.bind fun g => g.lease)) =
      some (some .B, none, some 4) ∧
    after (.leaseExpiry 1) leased (fun t => (t.reports, t.due.locks)) =
      some ([{ port := .A, kind := .leaseExpiry }, { port := .C, kind := .leaseExpiry }], []) := by decide +kernel

/-- RENEW ahead of a due tick restores the lease and leaves the tick due: at setting 1 the tick finds it at 1 and ends it (log 28). -/
theorem test_renew_ahead_of_the_due_tick :
    ∀ n ∈ [2, 1],
      after (.renew .A)
        (issuing { leased with locks := leased.locks.set 0 { leased.locks.get 0 with leaseSetting := n } } .A .renew { w1 := 7 })
        (fun t => ((t.locks.get 0).grant.bind fun g => g.lease, t.due.locks)) = some (some n, [0, 1]) := by decide +kernel

theorem test_coolDownExpiry :
    after (.coolDownExpiry .D)
      { ticked with ports := small.ports.set .D { PortRecord.initial with state := .isolated, coolDown := 1, score := 255 } }
      (fun t => (t.ports.get .D).coolDown) = some 0 := by decide +kernel

theorem test_authorizationExpiry :
    after .authorizationExpiry
      { ticked with
        device := { state := .run, quorum := 2, authorization := 4095 }
        ports := { small.ports with a := { small.ports.a with vote := true }, b := { small.ports.b with vote := true } } }
      (fun t => (t.ports.get .A, t.device)) =
      some (PortRecord.initial, { state := .run, quorum := 2, authorization := 0 }) := by decide +kernel

theorem test_faultScoreReport :
    after (.faultScoreReport .A .fault) { small with reports := [{ port := .A, kind := .fault }] }
      (fun t => ((t.ports.get .A).score, t.reports)) = some (8, []) := by decide +kernel

/-- A fault answered at an OFFLINE port leaves no report, and a purge takes its port's reports (log 26). -/
theorem test_faultScoreReport_of_absent_ports :
    after (.unknownCommand .D 0x0034) small (fun t => (t.reports, (t.events.get .D).pending)) = some ([], 1) ∧
    after (.portReset .A) { small with reports := [{ port := .A, kind := .fault }, { port := .B, kind := .success }] }
      (fun t => t.reports) = some [{ port := .B, kind := .success }] := by decide +kernel

theorem test_fanOutStart :
    after .fanOutStart (queued (message .pending 1 none))
      (fun t => ((t.defn? 1).map fun d => d.current, (t.slots.get 5).refs, t.slots.get 2)) =
      some (some (some 5), 2, Slot.free) := by decide +kernel

theorem test_placementEvent :
    after .placementEvent (spreading (message .spreading 0 none) (.visit .B))
      (fun t => ((t.queues.get .B).map fun e => e.slot, (t.slots.get 1).refs, (t.sub? 0 .B).map fun b => b.lost)) =
      some ([5], 1, some 1) := by decide +kernel

theorem test_fanOutEnd :
    after .fanOutEnd (spreading (message .spreading 0 none) .finish)
      (fun t => (t.slots.get 5, t.engine, (t.completions.get .A).length)) = some (Slot.free, none, 2) := by decide +kernel

theorem test_commandIssue :
    after (.commandIssue .A 0xAB12) small
      (fun t => ((t.windows.get .A).issued, (t.windows.get .A).command, (t.windows.get .A).counter)) =
      some (some { command := .publish, args := {} }, 0x12, 1) := by decide +kernel

/-! ### The hypotheses of the statements are met

One theorem for each statement that has hypotheses: states and operands that meet them together, at the boundary values of each
clause. -/

/-- `a` answers the whole table of checks of command `c` with `r`. -/
def judged (checks : List (Bool × Response × Words6)) : Option Response := (judge checks).map fun x => x.1

theorem witness_StepTakesTheFrontOfTheQueue :
    ({ small with pending := [.refclkCycle] } : State).pending = .refclkCycle :: [] ∧ small.pending = [] := by decide +kernel

theorem witness_CommandsLeaveTheQueueAndAreNeverRefused :
    (nextOf (exec .refclkCycle small)).isSome = true ∧
    faultOf (exec (.fillData .A 0) { small with geometry := .g128, reservations := small.reservations.set .A (some 64) }) =
      some .payloadStoreBounds ∧
    faultOf (exec (.readData .C)
      { small with
        holds := small.holds.set .C (some { entry := { entry 255 0 with length := 3 }, source := .stream, pointer := 0 }) }) =
      some .payloadStoreBounds := by decide +kernel

theorem witness_AssertedPornSuspendsThePart :
    small.powerOn.porAsserted = true ∧ Instr.fanOutStart ≠ .powerOnReset ∧ Instr.fanOutStart ≠ .pornRelease ∧
    (∀ p, Instr.fanOutStart ≠ .readData p) ∧ ∀ p h, Instr.fanOutStart ≠ .tickCount p h := by
  refine ⟨by decide +kernel, by decide, by decide, fun p => ?_, fun p h => ?_⟩ <;> simp

/-- Every command named is turned away somewhere: an OFFLINE port's, in `small` or in `config`. -/
theorem witness_PoolAndPublishChecksInOrder :
    (∀ c ∈ [Command.reserve, .abandon, .setGeometry, .setWatermark],
      (issuing small .D c {}).issues .D c {} ∧ (judge ((issuing small .D c {}).poolChecks c .D {})).isSome = true) ∧
    (∀ c ∈ [Command.publish, .collect],
      (issuing small .D c {}).issues .D c {} ∧ (judge ((issuing small .D c {}).publishChecks c .D {})).isSome = true) ∧
    judged (small.poolChecks .reserve .B { w0 := 31 }) = some .noChannel ∧
    judged (small.poolChecks .reserve .B { w0 := 32 }) = some .badArgument ∧
    judged (config.poolChecks .setWatermark .A { w0 := 129 }) = some .badArgument ∧
    judged (config.poolChecks .setWatermark .A { w0 := 128 }) = none ∧
    judged (small.publishChecks .publish .A { w0 := 0 }) = some .length ∧
    judged (small.publishChecks .publish .A { w0 := 65 }) = some .length ∧
    judged (small.publishChecks .publish .A { w0 := 64 }) = none := by
  refine ⟨fun c hc => ?_, fun c hc => ?_, ?_⟩
  · refine ⟨issues_issuing small .D c {} rfl, ?_⟩
    revert c
    decide +kernel
  · refine ⟨issues_issuing small .D c {} rfl, ?_⟩
    revert c
    decide +kernel
  · decide +kernel

theorem witness_DeliveryAndStateChecksInOrder :
    (∀ c ∈ [Command.take, .discard, .done, .queryQueue],
      (issuing small .D c {}).issues .D c {} ∧ (judge ((issuing small .D c {}).queueChecks c .D {})).isSome = true) ∧
    ((issuing small .D .readState {}).issues .D .readState {} ∧
      (judge ((issuing small .D .readState {}).readStateChecks .D {})).isSome = true) ∧
    judged (small.queueChecks .take .B { w0 := 32 }) = some .badArgument ∧
    judged (small.queueChecks .take .B { w0 := 31 }) = some .noChannel ∧
    judged (small.queueChecks .take .B { w0 := 1 }) = some .empty ∧
    judged (small.queueChecks .take .C { w0 := 32 }) = some .holdFull ∧
    judged (small.readStateChecks .C { w0 := 32 }) = some .badArgument ∧
    judged (small.readStateChecks .B { w0 := 0xFFFF }) = some .empty := by
  refine ⟨fun c hc => ?_, ⟨issues_issuing small .D .readState {} rfl, ?_⟩, ?_⟩
  · refine ⟨issues_issuing small .D c {} rfl, ?_⟩
    revert c
    decide +kernel
  · decide +kernel
  · decide +kernel

theorem witness_LockChecksInOrder :
    (∀ c ∈ [Command.acquire, .release, .renew, .cancelWait, .queryLock],
      (issuing small .D c {}).issues .D c {} ∧ (judge ((issuing small .D c {}).lockChecks c .D {})).isSome = true) ∧
    judged (small.lockChecks .acquire .A { w0 := 15 }) = none ∧
    judged (small.lockChecks .acquire .A { w0 := 16 }) = some .badArgument ∧
    judged (small.lockChecks .acquire .A { w0 := 0 }) = some .alreadyHolder ∧
    judged (small.lockChecks .acquire .B { w0 := 0 }) = some .alreadyWaiting ∧
    judged (small.lockChecks .acquire .A { w0 := 2 }) = some .denied ∧
    judged (small.lockChecks .release .A { w0 := 2, w1 := 0 }) = some .leaseExpired ∧
    judged (small.lockChecks .release .A { w0 := 2, w1 := 1 }) = some .notHolder ∧
    judged (small.lockChecks .renew .A { w0 := 0, w1 := 6 }) = some .staleGrant := by
  refine ⟨fun c hc => ⟨issues_issuing small .D c {} rfl, ?_⟩, ?_⟩
  · revert c
    decide +kernel
  · decide +kernel

theorem witness_ConfigurationChecksInOrder :
    (∀ c ∈ [Command.defineChannel, .setChannel, .subscribe, .unsubscribe, .suspend, .resume, .close, .freezeChannel, .setLease,
        .freezeLock],
      (issuing small .D c {}).issues .D c {} ∧
        (judge ((issuing small .D c {}).configurationChecks c .D {})).isSome = true) ∧
    judged (small.configurationChecks .close .B {}) = some .needConfigLock ∧
    judged (small.configurationChecks .close .A { w4 := 7, w5 := 1 }) = some .staleGrant ∧
    judged (small.configurationChecks .close .A { w0 := 32, w4 := 7 }) = some .badArgument ∧
    judged (small.configurationChecks .close .A { w0 := 31, w4 := 7 }) = some .noChannel ∧
    judged (config.configurationChecks .setChannel .B { w0 := 0, w2 := 15 }) = none ∧
    judged (config.configurationChecks .setChannel .B { w0 := 0, w2 := 16 }) = some .badArgument ∧
    judged (config.configurationChecks .subscribe .B { w0 := 0x0400 }) = some .badArgument ∧
    judged (config.configurationChecks .subscribe .B { w0 := 0x0300, w1 := 0x0110 }) = none ∧
    judged (config.configurationChecks .unsubscribe .B { w0 := 0x0200 }) = some .notSubscriber := by
  refine ⟨fun c hc => ⟨issues_issuing small .D c {} rfl, ?_⟩, ?_⟩
  · revert c
    decide +kernel
  · decide +kernel

theorem witness_ControlChecksInOrder :
    (∀ c ∈ [Command.attach, .detach, .voteReset, .withdrawVote, .start, .setTimebase, .setQuorum, .queryChannel,
        .querySubscription],
      (issuing small .D c {}).issues .D c {} ∧ (judge ((issuing small .D c {}).controlChecks c .D {})).isSome = true) ∧
    ((issuing small .D .queryPort { w0 := 4 }).issues .D .queryPort { w0 := 4 } ∧
      judged (small.controlChecks .queryPort .D { w0 := 4 }) = some .badArgument) ∧
    judged (small.controlChecks .queryPort .D { w0 := 3, w1 := 1 }) = none ∧
    judged (small.controlChecks .queryPort .D { w0 := 3, w1 := 2 }) = some .badArgument ∧
    judged (small.controlChecks .attach .A { w0 := 1, w1 := 128 }) = some .wrongState ∧
    judged (small.controlChecks .querySubscription .A { w0 := 0x0100, w1 := 1 }) = some .badArgument ∧
    judged (small.controlChecks .querySubscription .B { w0 := 0x0100, w1 := 1 }) = none := by
  refine ⟨fun c hc => ⟨issues_issuing small .D c {} rfl, ?_⟩, ⟨issues_issuing small .D .queryPort { w0 := 4 } rfl, ?_⟩, ?_⟩
  · revert c
    decide +kernel
  · decide +kernel
  · decide +kernel

/-- A command issued at a port of `s`, whose checks hold nothing, with anything else the clause asks for. -/
theorem accepted {s : State} {p : Port} {c : Command} {a : Words6} {checks : State → List (Bool × Response × Words6)} {q : Prop}
    (h0 : s.porAsserted = false) (h1 : judge (checks (issuing s p c a)) = none) (h2 : q) :
    (issuing s p c a).issues p c a ∧ judge (checks (issuing s p c a)) = none ∧ q :=
  ⟨issues_issuing s p c a h0, h1, h2⟩

/-- `small` with D ISOLATED and its cool-down ended. -/
def isolated : State :=
  { small with ports := small.ports.set .D { PortRecord.initial with state := .isolated, score := 255 } }

/-- `config` with quorum 2 and B's vote set. -/
def voted : State :=
  { config with device := { config.device with quorum := 2 }, ports := small.ports.set .B { small.ports.b with vote := true } }

/-- `small` with B reading its held message and nothing else held. -/
def reading : State :=
  { small with holds := small.holds.set .B (some { entry := entry 1 0, source := .stream, pointer := 0 }) }

/-- `small` with channel 0 in another phase. -/
def phased (phase : ChannelPhase) : State :=
  { small with channels := small.channels.set 0 { defn := some { channel .stream none with phase := phase }, seq := 9, frozen := false } }

/-- `small` with a subscription of depth 2 and lost count 65535 on channel 0 and two entries of it in B's queue. -/
def crowded : State :=
  { small with
    slots := small.slots.set 1 { use := .message (message .live 0 none), refs := 3 }
    queues := small.queues.set .B [entry 1 0, entry 1 0]
    channels := small.channels.set 0
      { defn := some { channel .stream none with
          subs := (channel .stream none).subs.set .B (some { sub 2 .keepNewest with lost := 65535 }) }
        seq := 9, frozen := false } }

theorem witness_AttachAdmitsThePort :
    ((issuing small .D .attach { w0 := 1, w1 := 1 }).issues .D .attach { w0 := 1, w1 := 1 } ∧
      judge ((issuing small .D .attach { w0 := 1, w1 := 1 }).controlChecks .attach .D { w0 := 1, w1 := 1 }) = none ∧ (small.ports.get .D).state = .offline) ∧
    ((issuing small .D .attach { w0 := 0xFFFF, w1 := 128 }).issues .D .attach { w0 := 0xFFFF, w1 := 128 } ∧
      judge ((issuing small .D .attach { w0 := 0xFFFF, w1 := 128 }).controlChecks .attach .D { w0 := 0xFFFF, w1 := 128 }) = none ∧ small.geometry.slotCount = 128) ∧
    ((issuing isolated .D .attach { w0 := 1, w1 := 1 }).issues .D .attach { w0 := 1, w1 := 1 } ∧
      judge ((issuing isolated .D .attach { w0 := 1, w1 := 1 }).controlChecks .attach .D { w0 := 1, w1 := 1 }) = none ∧ (isolated.ports.get .D).state = .isolated) :=
  ⟨accepted (checks := fun t => t.controlChecks .attach .D { w0 := 1, w1 := 1 }) rfl (by decide +kernel) (by decide +kernel),
   accepted (checks := fun t => t.controlChecks .attach .D { w0 := 0xFFFF, w1 := 128 }) rfl (by decide +kernel) (by decide +kernel),
   accepted (checks := fun t => t.controlChecks .attach .D { w0 := 1, w1 := 1 }) rfl (by decide +kernel) (by decide +kernel)⟩

theorem witness_DetachPurgesAndLeaves :
    ((issuing small .A .detach {}).issues .A .detach {} ∧
      judge ((issuing small .A .detach {}).controlChecks .detach .A {}) = none ∧ (small.ports.get .A).account = 3) :=
  accepted (checks := fun t => t.controlChecks .detach .A {}) rfl (by decide +kernel) (by decide +kernel)

theorem witness_VotesAreCastAndWithdrawn :
    ((issuing small .A .voteReset {}).issues .A .voteReset {} ∧
      judge ((issuing small .A .voteReset {}).controlChecks .voteReset .A {}) = none ∧ small.voteCount = 0) ∧
    ((issuing voted .A .voteReset {}).issues .A .voteReset {} ∧
      judge ((issuing voted .A .voteReset {}).controlChecks .voteReset .A {}) = none ∧ voted.device.state = .config ∧ voted.device.quorum = voted.voteCount + 1) ∧
    ((issuing small .A .withdrawVote {}).issues .A .withdrawVote {} ∧
      judge ((issuing small .A .withdrawVote {}).controlChecks .withdrawVote .A {}) = none ∧ small.device.state = .run) :=
  ⟨accepted (checks := fun t => t.controlChecks .voteReset .A {}) rfl (by decide +kernel) (by decide +kernel),
   accepted (checks := fun t => t.controlChecks .voteReset .A {}) rfl (by decide +kernel) (by decide +kernel),
   accepted (checks := fun t => t.controlChecks .withdrawVote .A {}) rfl (by decide +kernel) (by decide +kernel)⟩

theorem witness_SettingsAreTakenInConfig :
    ((issuing config .A .start {}).issues .A .start {} ∧
      judge ((issuing config .A .start {}).controlChecks .start .A {}) = none ∧ True) ∧
    ((issuing config .A .setTimebase { w0 := 0xFFFF }).issues .A .setTimebase { w0 := 0xFFFF } ∧
      judge ((issuing config .A .setTimebase { w0 := 0xFFFF }).controlChecks .setTimebase .A { w0 := 0xFFFF }) = none ∧ True) ∧
    ((issuing config .A .setQuorum { w0 := 2 }).issues .A .setQuorum { w0 := 2 } ∧
      judge ((issuing config .A .setQuorum { w0 := 2 }).controlChecks .setQuorum .A { w0 := 2 }) = none ∧ True) ∧
    ((issuing config .A .setQuorum { w0 := 4 }).issues .A .setQuorum { w0 := 4 } ∧
      judge ((issuing config .A .setQuorum { w0 := 4 }).controlChecks .setQuorum .A { w0 := 4 }) = none ∧ True) ∧
    ((issuing config .A .setWatermark { w0 := 128 }).issues .A .setWatermark { w0 := 128 } ∧
      judge ((issuing config .A .setWatermark { w0 := 128 }).poolChecks .setWatermark .A { w0 := 128 }) = none ∧ True) :=
  ⟨accepted (checks := fun t => t.controlChecks .start .A {}) rfl (by decide +kernel) (by decide +kernel),
   accepted (checks := fun t => t.controlChecks .setTimebase .A { w0 := 0xFFFF }) rfl (by decide +kernel) (by decide +kernel),
   accepted (checks := fun t => t.controlChecks .setQuorum .A { w0 := 2 }) rfl (by decide +kernel) (by decide +kernel),
   accepted (checks := fun t => t.controlChecks .setQuorum .A { w0 := 4 }) rfl (by decide +kernel) (by decide +kernel),
   accepted (checks := fun t => t.poolChecks .setWatermark .A { w0 := 128 }) rfl (by decide +kernel) (by decide +kernel)⟩

theorem witness_SetGeometryRebuildsThePool :
    ((issuing config .A .setGeometry { w0 := 32 }).issues .A .setGeometry { w0 := 32 } ∧
      judge ((issuing config .A .setGeometry { w0 := 32 }).poolChecks .setGeometry .A { w0 := 32 }) = none ∧ Geometry.g32.slotSize = (32 : Word).toNat) ∧
    ((issuing config .A .setGeometry { w0 := 64 }).issues .A .setGeometry { w0 := 64 } ∧
      judge ((issuing config .A .setGeometry { w0 := 64 }).poolChecks .setGeometry .A { w0 := 64 }) = none ∧ Geometry.g64.slotSize = (64 : Word).toNat) ∧
    ((issuing config .A .setGeometry { w0 := 128 }).issues .A .setGeometry { w0 := 128 } ∧
      judge ((issuing config .A .setGeometry { w0 := 128 }).poolChecks .setGeometry .A { w0 := 128 }) = none ∧ Geometry.g128.slotSize = (128 : Word).toNat) :=
  ⟨accepted (checks := fun t => t.poolChecks .setGeometry .A { w0 := 32 }) rfl (by decide +kernel) (by decide +kernel),
   accepted (checks := fun t => t.poolChecks .setGeometry .A { w0 := 64 }) rfl (by decide +kernel) (by decide +kernel),
   accepted (checks := fun t => t.poolChecks .setGeometry .A { w0 := 128 }) rfl (by decide +kernel) (by decide +kernel)⟩

theorem witness_PortAndDeviceQueriesReport :
    ((issuing small .D .queryPort { w0 := 0xFFFF, w1 := 0 }).issues .D .queryPort { w0 := 0xFFFF, w1 := 0 } ∧
      judge ((issuing small .D .queryPort { w0 := 0xFFFF, w1 := 0 }).controlChecks .queryPort .D { w0 := 0xFFFF, w1 := 0 }) = none ∧ (0xFFFF : Word) = 0xFFFF) ∧
    ((issuing small .D .queryPort { w0 := 3, w1 := 1 }).issues .D .queryPort { w0 := 3, w1 := 1 } ∧
      judge ((issuing small .D .queryPort { w0 := 3, w1 := 1 }).controlChecks .queryPort .D { w0 := 3, w1 := 1 }) = none ∧ (3 : Word).toNat = Port.D.index) ∧
    ((issuing small .D .queryDevice {}).issues .D .queryDevice {} ∧
      judge ((issuing small .D .queryDevice {}).controlChecks .queryDevice .D {}) = none ∧ True) :=
  ⟨accepted (checks := fun t => t.controlChecks .queryPort .D { w0 := 0xFFFF, w1 := 0 }) rfl (by decide +kernel) (by decide +kernel),
   accepted (checks := fun t => t.controlChecks .queryPort .D { w0 := 3, w1 := 1 }) rfl (by decide +kernel) (by decide +kernel),
   accepted (checks := fun t => t.controlChecks .queryDevice .D {}) rfl (by decide +kernel) (by decide +kernel)⟩

theorem witness_RecordQueriesReport :
    ((issuing small .A .queryChannel { w0 := 31 }).issues .A .queryChannel { w0 := 31 } ∧
      judge ((issuing small .A .queryChannel { w0 := 31 }).controlChecks .queryChannel .A { w0 := 31 }) = none ∧ (31 : Word).toNat = (31 : ChannelId).val) ∧
    ((issuing small .A .queryChannel { w0 := 0 }).issues .A .queryChannel { w0 := 0 } ∧
      judge ((issuing small .A .queryChannel { w0 := 0 }).controlChecks .queryChannel .A { w0 := 0 }) = none ∧ (0 : Word).toNat = (0 : ChannelId).val) ∧
    ((issuing small .B .querySubscription { w0 := 0x0100, w1 := 1 }).issues .B .querySubscription { w0 := 0x0100, w1 := 1 } ∧
      judge ((issuing small .B .querySubscription { w0 := 0x0100, w1 := 1 }).controlChecks .querySubscription .B { w0 := 0x0100, w1 := 1 }) = none ∧ (0x0100 : Word).toNat = (0 : ChannelId).val + 256 * Port.B.index) ∧
    ((issuing small .B .querySubscription { w0 := 0x031F }).issues .B .querySubscription { w0 := 0x031F } ∧
      judge ((issuing small .B .querySubscription { w0 := 0x031F }).controlChecks .querySubscription .B { w0 := 0x031F }) = none ∧ (0x031F : Word).toNat = (31 : ChannelId).val + 256 * Port.D.index) ∧
    ((issuing small .C .queryQueue { w0 := 0xFFFF }).issues .C .queryQueue { w0 := 0xFFFF } ∧
      judge ((issuing small .C .queryQueue { w0 := 0xFFFF }).queueChecks .queryQueue .C { w0 := 0xFFFF }) = none ∧ True) ∧
    ((issuing small .B .queryQueue { w0 := 31 }).issues .B .queryQueue { w0 := 31 } ∧
      judge ((issuing small .B .queryQueue { w0 := 31 }).queueChecks .queryQueue .B { w0 := 31 }) = none ∧ True) ∧
    ((issuing small .B .queryLock { w0 := 15 }).issues .B .queryLock { w0 := 15 } ∧
      judge ((issuing small .B .queryLock { w0 := 15 }).lockChecks .queryLock .B { w0 := 15 }) = none ∧ (15 : Word).toNat = (15 : LockId).val) :=
  ⟨accepted (checks := fun t => t.controlChecks .queryChannel .A { w0 := 31 }) rfl (by decide +kernel) (by decide +kernel),
   accepted (checks := fun t => t.controlChecks .queryChannel .A { w0 := 0 }) rfl (by decide +kernel) (by decide +kernel),
   accepted (checks := fun t => t.controlChecks .querySubscription .B { w0 := 0x0100, w1 := 1 }) rfl (by decide +kernel) (by decide +kernel),
   accepted (checks := fun t => t.controlChecks .querySubscription .B { w0 := 0x031F }) rfl (by decide +kernel) (by decide +kernel),
   accepted (checks := fun t => t.queueChecks .queryQueue .C { w0 := 0xFFFF }) rfl (by decide +kernel) (by decide +kernel),
   accepted (checks := fun t => t.queueChecks .queryQueue .B { w0 := 31 }) rfl (by decide +kernel) (by decide +kernel),
   accepted (checks := fun t => t.lockChecks .queryLock .B { w0 := 15 }) rfl (by decide +kernel) (by decide +kernel)⟩

theorem witness_ReserveTakesTheHeadOfTheFreeList :
    ((issuing small .B .reserve { w0 := 0 }).issues .B .reserve { w0 := 0 } ∧
      judge ((issuing small .B .reserve { w0 := 0 }).poolChecks .reserve .B { w0 := 0 }) = none ∧ (0 : Word).toNat = (0 : ChannelId).val ∧ small.freeList = 3 :: [4]) :=
  accepted (checks := fun t => t.poolChecks .reserve .B { w0 := 0 }) rfl (by decide +kernel) (by decide +kernel)

theorem witness_LastReleaseFreesTheSlot : (small.slots.get 2).refs = 1 ∧ (small.slots.get 1).refs ≠ 1 := by decide +kernel

theorem small_payloadCanonical (m : Memory) (h : m = []) (s : State) (hs : s.payload = m) : s.PayloadCanonical := by
  subst h
  exact ⟨by rw [hs]; exact ⟨List.Pairwise.nil, by simp⟩, by rw [hs]; simp⟩

/-- `small` with A's fill pointer at `k`. -/
def filling (k : Nat) : State := { small with windows := small.windows.set .A { small.windows.a with fillPointer := k } }

theorem witness_FillLocationsWriteTheReservedSlot :
    small.porAsserted = false ∧ small.attached .D = false ∧ (small.attached .B = true ∧ small.reservations.get .B = none) ∧
    (∀ k ∈ [0, 62, 64],
      (filling k).attached .A = true ∧ (filling k).reservations.get .A = some 0 ∧ ((filling k).windows.get .A).fillPointer = k) ∧
    ((0 : SlotId).val < (filling 62).geometry.slotCount ∧ 62 < (filling 62).geometry.slotSize ∧
      (filling 64).geometry.slotSize ≤ 64) ∧
    (filling 62).PayloadCanonical :=
  ⟨by decide +kernel, by decide +kernel, by decide +kernel, by decide +kernel, by decide +kernel,
   small_payloadCanonical [] rfl _ rfl⟩

theorem witness_PublishQueuesTheReservedSlot :
    ((issuing small .A .publish { w0 := 1 }).issues .A .publish { w0 := 1 } ∧
      judge ((issuing small .A .publish { w0 := 1 }).publishChecks .publish .A { w0 := 1 }) = none ∧ small.reservations.get .A = some 0 ∧ (small.slots.get 0).use = .filling 0 .A ∧
        (small.channels.get 0).defn = some (channel .stream none)) ∧
    ((issuing small .A .publish { w0 := 64 }).issues .A .publish { w0 := 64 } ∧
      judge ((issuing small .A .publish { w0 := 64 }).publishChecks .publish .A { w0 := 64 }) = none ∧ small.reservations.get .A = some 0 ∧ (small.slots.get 0).use = .filling 0 .A ∧
        (small.channels.get 0).defn = some (channel .stream none)) :=
  ⟨accepted (checks := fun t => t.publishChecks .publish .A { w0 := 1 }) rfl (by decide +kernel) (by decide +kernel),
   accepted (checks := fun t => t.publishChecks .publish .A { w0 := 64 }) rfl (by decide +kernel) (by decide +kernel)⟩

theorem witness_CollectReturnsTheOldestRecord :
    ((issuing small .A .collect {}).issues .A .collect {} ∧
      judge ((issuing small .A .collect {}).publishChecks .collect .A {}) = none ∧ small.completions.get .A ≠ []) :=
  accepted (checks := fun t => t.publishChecks .collect .A {}) rfl (by decide +kernel) (by decide +kernel)

theorem witness_FanOutStartTakesTheHeadRequest :
    (∀ m ∈ [message .pending 0 none, message .pending 1 none],
      (queued m).porAsserted = false ∧ (queued m).engine = none ∧
      (queued m).publishQueue = { slot := 5, publisher := .A, orphaned := false } :: [] ∧
      ((queued m).slots.get 5).use = .message m) ∧
    (small.defn? 0 = some (channel .stream none) ∧ (channel .stream none).kind = .stream) ∧
    (small.defn? 1 = some (channel .state (some 2)) ∧ (channel .state (some 2)).kind = .state) := by decide +kernel

/-- `spreading` a message of channel 0 at port `p`, B's queue cut to what `q` says and its policy as given. -/
def placing (p : Port) (policy : Policy) (q : List Entry) (st : PortState) (mask : Word) : State :=
  { spreading (message .spreading 0 none) (.visit p) with
    channels := small.channels.set 0
      { defn := some { channel .stream none with
          subs := { a := some { sub 4 .keepOldest with tagMask := mask }, b := some { sub 1 policy with tagMask := mask }, c := none
                    d := some (sub 2 .keepOldest) } }
        seq := 9, frozen := false }
    queues := small.queues.set .B q
    ports := small.ports.set .B { small.ports.b with state := st } }

theorem witness_PlacementClassesThePort :
    (∀ p, (spreading (message .spreading 0 none) (.visit p)).porAsserted = false ∧
      ((spreading (message .spreading 0 none) (.visit p)).engine.map fun f => (f.cursor, f.request.slot)) = some (.visit p, 5) ∧
      (spreading (message .spreading 0 none) (.visit p)).message? 5 = some (message .spreading 0 none)) ∧
    small.sub? 0 .C = none ∧
    (small.attached .D = false ∧ (small.sub? 0 .D).isSome = true) ∧
    ((placing .B .keepOldest [] .attached 1).attached .B = true ∧
      ((placing .B .keepOldest [] .attached 1).sub? 0 .B).map (fun b => b.accepts 5) = some false) ∧
    (((placing .B .keepOldest [] .attached 4).sub? 0 .B).map (fun b => (b.accepts 5, b.accepts 1)) = some (false, true)) ∧
    ((placing .B .keepOldest [] .attached 0).entriesOf .B 0 = 0 ∧
      ((placing .B .keepOldest [] .attached 0).sub? 0 .B).map (fun b => b.depth) = some 1) ∧
    ((placing .B .keepNewest [entry 1 0] .attached 0).entriesOf .B 0 = 1 ∧
      ((placing .B .keepNewest [entry 1 0] .attached 0).queues.get .B).find? (fun x => decide (x.channel = 0)) =
        some (entry 1 0)) ∧
    ((placing .B .keepNewest (List.replicate 64 (entry 1 1)) .attached 0).entriesOf .B 0 = 0 ∧
      ((placing .B .keepNewest (List.replicate 64 (entry 1 1)) .attached 0).queues.get .B).length = 64) ∧
    (small.attached .A = true ∧ (small.sub? 1 .A).map (fun b => b.accepts 5) = some true ∧
      (small.defn? 1).map (fun d => d.kind) = some .state) := by
  refine ⟨fun p => ?_, ?_⟩
  · cases p <;> decide +kernel
  · decide +kernel

theorem witness_FanOutEndMakesTheRecord :
    let s := spreading (message .spreading 0 none) .finish
    s.porAsserted = false ∧ (s.engine.map fun f => (f.cursor, f.request.slot)) = some (.finish, 5) ∧
    s.message? 5 = some (message .spreading 0 none) := by decide +kernel

theorem witness_TakeMovesTheOldestMatchingEntry :
    ((issuing small .B .take { w0 := 0 }).issues .B .take { w0 := 0 } ∧
      judge ((issuing small .B .take { w0 := 0 }).queueChecks .take .B { w0 := 0 }) = none ∧ (small.queues.get .B).find? (selects 0) = some (entry 1 0)) ∧
    ((issuing small .B .take { w0 := 0xFFFF }).issues .B .take { w0 := 0xFFFF } ∧
      judge ((issuing small .B .take { w0 := 0xFFFF }).queueChecks .take .B { w0 := 0xFFFF }) = none ∧ (small.queues.get .B).find? (selects 0xFFFF) = some (entry 1 0)) :=
  ⟨accepted (checks := fun t => t.queueChecks .take .B { w0 := 0 }) rfl (by decide +kernel) (by decide +kernel),
   accepted (checks := fun t => t.queueChecks .take .B { w0 := 0xFFFF }) rfl (by decide +kernel) (by decide +kernel)⟩

theorem witness_AbandonDiscardAndDoneReleaseTheReference :
    ((issuing small .A .abandon {}).issues .A .abandon {} ∧
      judge ((issuing small .A .abandon {}).poolChecks .abandon .A {}) = none ∧ small.reservations.get .A = some 0) ∧
    ((issuing small .B .discard { w0 := 0xFFFF }).issues .B .discard { w0 := 0xFFFF } ∧
      judge ((issuing small .B .discard { w0 := 0xFFFF }).queueChecks .discard .B { w0 := 0xFFFF }) = none ∧ (small.queues.get .B).find? (selects 0xFFFF) = some (entry 1 0)) ∧
    ((issuing small .C .done {}).issues .C .done {} ∧
      judge ((issuing small .C .done {}).queueChecks .done .C {}) = none ∧ small.holds.get .C = some { entry := entry 1 0, source := .stream, pointer := 2 }) :=
  ⟨accepted (checks := fun t => t.poolChecks .abandon .A {}) rfl (by decide +kernel) (by decide +kernel),
   accepted (checks := fun t => t.queueChecks .discard .B { w0 := 0xFFFF }) rfl (by decide +kernel) (by decide +kernel),
   accepted (checks := fun t => t.queueChecks .done .C {}) rfl (by decide +kernel) (by decide +kernel)⟩

theorem witness_ReadStateReadsTheCurrentValue :
    ((issuing small .A .readState { w0 := 1 }).issues .A .readState { w0 := 1 } ∧
      judge ((issuing small .A .readState { w0 := 1 }).readStateChecks .A { w0 := 1 }) = none ∧ small.valueFor .A 1 = some (1, 2, message .live 1 (some 1)) ∧
        (small.channels.get 1).defn = some (channel .state (some 2)) ∧
        (channel .state (some 2)).subs.get .A = some { sub 4 .keepOldest with new := true }) ∧
    ((issuing small .A .readState { w0 := 0xFFFF }).issues .A .readState { w0 := 0xFFFF } ∧
      judge ((issuing small .A .readState { w0 := 0xFFFF }).readStateChecks .A { w0 := 0xFFFF }) = none ∧ small.valueFor .A 0xFFFF = some (1, 2, message .live 1 (some 1)) ∧
        (small.channels.get 1).defn = some (channel .state (some 2)) ∧
        (channel .state (some 2)).subs.get .A = some { sub 4 .keepOldest with new := true }) :=
  ⟨accepted (checks := fun t => t.readStateChecks .A { w0 := 1 }) rfl (by decide +kernel) (by decide +kernel),
   accepted (checks := fun t => t.readStateChecks .A { w0 := 0xFFFF }) rfl (by decide +kernel) (by decide +kernel)⟩

theorem witness_ReadLocationsReadTheHeldMessage :
    small.porAsserted = false ∧ small.attached .D = false ∧ (small.attached .A = true ∧ small.holds.get .A = none) ∧
    (small.attached .C = true ∧ small.holds.get .C = some { entry := entry 1 0, source := .stream, pointer := 2 } ∧
      2 < (entry 1 0).length ∧ (entry 1 0).slot.val < small.geometry.slotCount ∧
      (entry 1 0).length ≤ small.geometry.slotSize) ∧
    (reading.holds.get .B = some { entry := entry 1 0, source := .stream, pointer := 0 } ∧
      ¬(entry 1 0).length ≤ 0 ∧ (entry 1 0).length ≤ 4) := by decide +kernel

theorem witness_HandoffPassesTheLockOn : (small.locks.get 0).waiters = .B :: [] ∧ (small.locks.get 2).waiters = [] := by
  decide +kernel

theorem witness_LocksAreAcquiredQueuedForAndGivenUp :
    ((issuing small .C .acquire { w0 := 15 }).issues .C .acquire { w0 := 15 } ∧
      judge ((issuing small .C .acquire { w0 := 15 }).lockChecks .acquire .C { w0 := 15 }) = none ∧ (15 : Word).toNat = (15 : LockId).val ∧ (small.locks.get 15).grant = none) ∧
    ((issuing small .C .acquire { w0 := 0, w1 := 1 }).issues .C .acquire { w0 := 0, w1 := 1 } ∧
      judge ((issuing small .C .acquire { w0 := 0, w1 := 1 }).lockChecks .acquire .C { w0 := 0, w1 := 1 }) = none ∧ (0 : Word).toNat = (0 : LockId).val ∧
        (small.locks.get 0).grant = some { holder := .A, number := 7, lease := some 1 }) ∧
    ((issuing small .B .cancelWait { w0 := 0 }).issues .B .cancelWait { w0 := 0 } ∧
      judge ((issuing small .B .cancelWait { w0 := 0 }).lockChecks .cancelWait .B { w0 := 0 }) = none ∧ (0 : Word).toNat = (0 : LockId).val) :=
  ⟨accepted (checks := fun t => t.lockChecks .acquire .C { w0 := 15 }) rfl (by decide +kernel) (by decide +kernel),
   accepted (checks := fun t => t.lockChecks .acquire .C { w0 := 0, w1 := 1 }) rfl (by decide +kernel) (by decide +kernel),
   accepted (checks := fun t => t.lockChecks .cancelWait .B { w0 := 0 }) rfl (by decide +kernel) (by decide +kernel)⟩

theorem witness_HeldLocksAndLockSettingsChange :
    ((issuing small .A .release { w0 := 0, w1 := 7 }).issues .A .release { w0 := 0, w1 := 7 } ∧
      judge ((issuing small .A .release { w0 := 0, w1 := 7 }).lockChecks .release .A { w0 := 0, w1 := 7 }) = none ∧ (0 : Word).toNat = (0 : LockId).val) ∧
    ((issuing small .A .renew { w0 := 0, w1 := 7 }).issues .A .renew { w0 := 0, w1 := 7 } ∧
      judge ((issuing small .A .renew { w0 := 0, w1 := 7 }).lockChecks .renew .A { w0 := 0, w1 := 7 }) = none ∧ (small.locks.get 0).grant = some { holder := .A, number := 7, lease := some 1 }) ∧
    ((issuing small .A .setLease { w0 := 15, w4 := 7 }).issues .A .setLease { w0 := 15, w4 := 7 } ∧
      judge ((issuing small .A .setLease { w0 := 15, w4 := 7 }).configurationChecks .setLease .A { w0 := 15, w4 := 7 }) = none ∧ (15 : Word).toNat = (15 : LockId).val) ∧
    ((issuing small .A .freezeLock { w0 := 15, w4 := 7 }).issues .A .freezeLock { w0 := 15, w4 := 7 } ∧
      judge ((issuing small .A .freezeLock { w0 := 15, w4 := 7 }).configurationChecks .freezeLock .A { w0 := 15, w4 := 7 }) = none ∧ (15 : Word).toNat = (15 : LockId).val) :=
  ⟨accepted (checks := fun t => t.lockChecks .release .A { w0 := 0, w1 := 7 }) rfl (by decide +kernel) (by decide +kernel),
   accepted (checks := fun t => t.lockChecks .renew .A { w0 := 0, w1 := 7 }) rfl (by decide +kernel) (by decide +kernel),
   accepted (checks := fun t => t.configurationChecks .setLease .A { w0 := 15, w4 := 7 }) rfl (by decide +kernel) (by decide +kernel),
   accepted (checks := fun t => t.configurationChecks .freezeLock .A { w0 := 15, w4 := 7 }) rfl (by decide +kernel) (by decide +kernel)⟩

theorem witness_LeaseExpiryRevokesAndHandsOff :
    leased.porAsserted = false ∧ (0 : LockId) ∈ leased.due.locks ∧ (1 : LockId) ∈ leased.due.locks ∧
    (leased.locks.get 15).grant = none ∧ (leased.locks.get 2).grant = some { holder := .B, number := 1, lease := none } ∧
    (∀ n ∈ [1, 2],
      (({ leased with
        locks := leased.locks.set 0
          { leased.locks.get 0 with grant := some { holder := .A, number := 7, lease := some n } } } : State).locks.get 0).grant =
        some { holder := .A, number := 7, lease := some n }) ∧
    (leased.locks.get 0).waiters = [.B] ∧ (leased.locks.get 1).waiters = [] := by decide +kernel

theorem witness_ChannelsAreDefinedAndReconfigured :
    ((issuing small .A .defineChannel { w0 := 31, w1 := 1, w2 := 15, w4 := 7 }).issues .A .defineChannel { w0 := 31, w1 := 1, w2 := 15, w4 := 7 } ∧
      judge ((issuing small .A .defineChannel { w0 := 31, w1 := 1, w2 := 15, w4 := 7 }).configurationChecks .defineChannel .A { w0 := 31, w1 := 1, w2 := 15, w4 := 7 }) = none ∧ (31 : Word).toNat = (31 : ChannelId).val) ∧
    ((issuing small .A .setChannel { w0 := 0, w4 := 7 }).issues .A .setChannel { w0 := 0, w4 := 7 } ∧
      judge ((issuing small .A .setChannel { w0 := 0, w4 := 7 }).configurationChecks .setChannel .A { w0 := 0, w4 := 7 }) = none ∧ (0 : Word).toNat = (0 : ChannelId).val ∧ (small.channels.get 0).defn = some (channel .stream none)) :=
  ⟨accepted (checks := fun t => t.configurationChecks .defineChannel .A { w0 := 31, w1 := 1, w2 := 15, w4 := 7 }) rfl (by decide +kernel) (by decide +kernel),
   accepted (checks := fun t => t.configurationChecks .setChannel .A { w0 := 0, w4 := 7 }) rfl (by decide +kernel) (by decide +kernel)⟩

theorem witness_SubscriptionsAreMadeTrimmedAndRemoved :
    ((issuing small .A .subscribe { w0 := 0x0200, w1 := 0x0110, w4 := 7 }).issues .A .subscribe { w0 := 0x0200, w1 := 0x0110, w4 := 7 } ∧
      judge ((issuing small .A .subscribe { w0 := 0x0200, w1 := 0x0110, w4 := 7 }).configurationChecks .subscribe .A { w0 := 0x0200, w1 := 0x0110, w4 := 7 }) = none ∧ (0x0200 : Word).toNat = (0 : ChannelId).val + 256 * Port.C.index ∧ (small.channels.get 0).defn = some (channel .stream none) ∧
        (channel .stream none).subs.get .C = none) ∧
    ((issuing crowded .A .subscribe { w0 := 0x0100, w1 := 0x0001, w4 := 7 }).issues .A .subscribe { w0 := 0x0100, w1 := 0x0001, w4 := 7 } ∧
      judge ((issuing crowded .A .subscribe { w0 := 0x0100, w1 := 0x0001, w4 := 7 }).configurationChecks .subscribe .A { w0 := 0x0100, w1 := 0x0001, w4 := 7 }) = none ∧ (0x0100 : Word).toNat = (0 : ChannelId).val + 256 * Port.B.index ∧ crowded.entriesOf .B 0 = 2 ∧
        (crowded.sub? 0 .B).map (fun b => (b.depth, b.lost)) = some (2, 65535)) ∧
    ((issuing small .A .unsubscribe { w0 := 0x0100, w4 := 7 }).issues .A .unsubscribe { w0 := 0x0100, w4 := 7 } ∧
      judge ((issuing small .A .unsubscribe { w0 := 0x0100, w4 := 7 }).configurationChecks .unsubscribe .A { w0 := 0x0100, w4 := 7 }) = none ∧ (0x0100 : Word).toNat = (0 : ChannelId).val + 256 * Port.B.index) :=
  ⟨accepted (checks := fun t => t.configurationChecks .subscribe .A { w0 := 0x0200, w1 := 0x0110, w4 := 7 }) rfl (by decide +kernel) (by decide +kernel),
   accepted (checks := fun t => t.configurationChecks .subscribe .A { w0 := 0x0100, w1 := 0x0001, w4 := 7 }) rfl (by decide +kernel) (by decide +kernel),
   accepted (checks := fun t => t.configurationChecks .unsubscribe .A { w0 := 0x0100, w4 := 7 }) rfl (by decide +kernel) (by decide +kernel)⟩

theorem witness_ChannelsAreSuspendedResumedAndFrozen :
    ((issuing small .A .suspend { w0 := 0, w4 := 7 }).issues .A .suspend { w0 := 0, w4 := 7 } ∧
      judge ((issuing small .A .suspend { w0 := 0, w4 := 7 }).configurationChecks .suspend .A { w0 := 0, w4 := 7 }) = none ∧ (0 : Word).toNat = (0 : ChannelId).val ∧ (small.channels.get 0).defn = some (channel .stream none)) ∧
    ((issuing (phased .suspended) .A .resume { w0 := 0, w4 := 7 }).issues .A .resume { w0 := 0, w4 := 7 } ∧
      judge ((issuing (phased .suspended) .A .resume { w0 := 0, w4 := 7 }).configurationChecks .resume .A { w0 := 0, w4 := 7 }) = none ∧ ((phased .suspended).channels.get 0).defn = some { channel .stream none with phase := .suspended }) ∧
    ((issuing small .A .freezeChannel { w0 := 0, w4 := 7 }).issues .A .freezeChannel { w0 := 0, w4 := 7 } ∧
      judge ((issuing small .A .freezeChannel { w0 := 0, w4 := 7 }).configurationChecks .freezeChannel .A { w0 := 0, w4 := 7 }) = none ∧ (small.channels.get 0).defn = some (channel .stream none)) :=
  ⟨accepted (checks := fun t => t.configurationChecks .suspend .A { w0 := 0, w4 := 7 }) rfl (by decide +kernel) (by decide +kernel),
   accepted (checks := fun t => t.configurationChecks .resume .A { w0 := 0, w4 := 7 }) rfl (by decide +kernel) (by decide +kernel),
   accepted (checks := fun t => t.configurationChecks .freezeChannel .A { w0 := 0, w4 := 7 }) rfl (by decide +kernel) (by decide +kernel)⟩

theorem witness_CloseActsAtOnceOrIsDeferred :
    ((issuing (phased .closing) .A .close { w0 := 0, w4 := 7 }).issues .A .close { w0 := 0, w4 := 7 } ∧
      judge ((issuing (phased .closing) .A .close { w0 := 0, w4 := 7 }).configurationChecks .close .A { w0 := 0, w4 := 7 }) = none ∧ ((phased .closing).channels.get 0).defn = some { channel .stream none with phase := .closing }) ∧
    ((issuing (spreading (message .spreading 0 none) .finish) .A .close { w0 := 0, w4 := 7 }).issues .A .close { w0 := 0, w4 := 7 } ∧
      judge ((issuing (spreading (message .spreading 0 none) .finish) .A .close { w0 := 0, w4 := 7 }).configurationChecks .close .A { w0 := 0, w4 := 7 }) = none ∧ ((spreading (message .spreading 0 none) .finish).engine.map fun f => f.request.slot) = some 5) ∧
    ((issuing small .A .close { w0 := 0, w4 := 7 }).issues .A .close { w0 := 0, w4 := 7 } ∧
      judge ((issuing small .A .close { w0 := 0, w4 := 7 }).configurationChecks .close .A { w0 := 0, w4 := 7 }) = none ∧ (0 : Word).toNat = (0 : ChannelId).val ∧ (small.channels.get 0).defn = some (channel .stream none) ∧ small.engine = none) :=
  ⟨accepted (checks := fun t => t.configurationChecks .close .A { w0 := 0, w4 := 7 }) rfl (by decide +kernel) (by decide +kernel),
   accepted (checks := fun t => t.configurationChecks .close .A { w0 := 0, w4 := 7 }) rfl (by decide +kernel) (by decide +kernel),
   accepted (checks := fun t => t.configurationChecks .close .A { w0 := 0, w4 := 7 }) rfl (by decide +kernel) (by decide +kernel)⟩

/-- With a request of the channel, one of another channel, entries, a current value, and subscribers ATTACHED and absent. -/
theorem witness_ClosedChannelLeavesNothing :
    let two := { queued (message .pending 0 none) with
      slots := (queued (message .pending 0 none)).slots.set 6 { use := .message (message .pending 1 none), refs := 1 }
      publishQueue := [{ slot := 5, publisher := .A, orphaned := false }, { slot := 6, publisher := .A, orphaned := true }] }
    ((two.channels.get 0).defn = some (channel .stream none) ∧ (two.publishQueue.map fun r => r.slot).Nodup ∧
      ((channel .stream none).subs.get .A).isSome = true ∧ two.attached .A = true) ∧
    ((two.channels.get 1).defn = some (channel .state (some 2)) ∧ ((channel .state (some 2)).subs.get .D).isSome = true ∧
      two.attached .D = false) := by decide +kernel

theorem witness_CommandWritesIssueCollideOrAreUnknown :
    small.porAsserted = false ∧
    ((issuing small .A .take {}).windows.get .A).issued = some { command := .take, args := {} } ∧
    ((small.windows.get .A).issued = none ∧ Command.attach.code = (0xFF01 : Word).extractLsb' 0 8 ∧
      Command.querySubscription.code = (0x0033 : Word).extractLsb' 0 8) ∧
    (Command.all.all fun c => decide (c.code ≠ (0x0034 : Word).extractLsb' 0 8)) = true := by decide +kernel

theorem witness_WindowLocationsAreWrittenAndRead :
    small.porAsserted = false ∧ (6 < (0x08 : BitVec 6).toNat ∧ plainOffset 0x08 = true) ∧
    (6 < (0x07 : BitVec 6).toNat ∧ plainOffset 0x07 = true) ∧ (6 < (0x3F : BitVec 6).toNat ∧ plainOffset 0x3F = true) ∧
    (nextOf (exec (.registerWrite .A 6 1) small)).isSome = true ∧ (1 ≤ (1 : BitVec 6).toNat ∧ (6 : BitVec 6).toNat ≤ 6) ∧
    (nextOf (exec (.readData .C) small)).isSome = true := by decide +kernel

/-- SUMMARY's clauses at the limits of the queue and of the records, and with STATE news at B and none at D. -/
theorem witness_WindowLocationsAreWrittenAndRead_summary :
    let full : State := { small with
      queues := small.queues.set .B (List.replicate 64 (entry 1 0))
      completions := small.completions.set .B (List.replicate 4
        { channel := 0, seq := 8, outcome := .delivered, counts := { placed := 2, filtered := 1, offline := 1, dropped := 0 } }) }
    (full.queues.get .B).length = 64 ∧ (full.completions.get .B).length = 4 ∧ full.readWindow .B 0x16 = 0x0840 ∧
    small.readWindow .A 0x16 = 0x1300 ∧ small.readWindow .D 0x16 = 0 := by decide +kernel

/-- The read clauses' boundary values: STATUS at bands 0 to 2 and at an absent port, and the absent and write-only offsets. -/
theorem witness_WindowLocationsAreWrittenAndRead_status :
    (∀ x ∈ [(95, 0x1022), (96, 0x102A), (127, 0x102A), (128, 0x1032)],
      ({ small with ports := small.ports.set .A { small.ports.a with score := x.1 } } : State).readWindow .A 0x08 = x.2) ∧
    small.readWindow .D 0x08 = 0x1038 ∧
    ∀ off ∈ [(0x07 : BitVec 6), 0x1A, 0x20, 0x22, 0x23, 0x26, 0x3F], small.readWindow .A off = 0 := by decide +kernel

theorem witness_TickCountIsReadConsistently : small.porAsserted = false := by decide +kernel

theorem witness_EventLocationsAreWritten : small.porAsserted = false ∧ 11 < 12 ∧ 23 < 24 := by decide +kernel

/-- `small` with FAULT and VOTE pending and enabled at A, VOTE of the higher priority. -/
def eventful : State :=
  { small with events := small.events.set .A { pending := 0x801, enable := 0xFFF, priority := 0xC00001, threshold := 1 } }

theorem witness_QualifyingEventsDriveTheLineAndTopCause :
    eventful.porAsserted = false ∧ eventful.interrupt .A = true ∧ eventful.readWindow .A 0x15 = 0x030B ∧
    small.readWindow .A 0x15 = 0xFFFF ∧ small.interrupt .A = false := by decide +kernel

theorem witness_PortResetPurgesOrDiscards : small.porAsserted = false ∧ small.attached .A = true ∧ small.attached .D = false := by
  decide +kernel

/-- `small` with A's command `take` ISSUED, A ISOLATED or not, lock 2 held by A as well and nobody waiting for it. -/
def leaving (st : PortState) : State :=
  let s := issuing small .A .take {}
  { s with
    ports := s.ports.set .A { s.ports.a with state := st }
    locks := s.locks.set 2 { s.locks.get 2 with grant := some { holder := .A, number := 1, lease := none } } }

/-- The premise on waits, with a holder ATTACHED or already ISOLATED; a handoff to a waiter and none; a waiter that leaves; the window
with a command ISSUED and none; a NEW flag; requests of the port in the queue and in the engine. -/
theorem witness_PurgeTakesEveryHolding :
    (∀ st ∈ [PortState.attached, .isolated], ∀ p ∈ [Port.A, .B], ∀ l, p ∈ ((leaving st).locks.get l).waiters →
      (leaving st).waits.get p = some l) ∧
    (((leaving .isolated).locks.get 0).waiters = [.B] ∧ ((leaving .isolated).locks.get 2).waiters = [] ∧
      (leaving .isolated).waits.get .B = some 0) ∧
    ((leaving .isolated).windows.get .A).issued = some { command := .take, args := {} } ∧
    ((leaving .isolated).windows.get .B).issued = none ∧
    ((small.channels.get 1).defn.bind fun d => (d.subs.get .A).map fun b => b.new) = some true ∧
    (queued (message .pending 0 none)).publishQueue.map (fun r => r.publisher) = [.A] ∧
    ((spreading (message .spreading 0 none) .finish).engine.map fun f => f.request.publisher) = some .A := by decide +kernel

theorem witness_ReportsMoveTheFaultScore :
    (∀ p ∈ [Port.A, .D], ∀ k ∈ [ReportKind.success, .refusal, .fault, .leaseExpiry],
      ({ small with reports := [{ port := p, kind := k }] } : State).porAsserted = false ∧
      { port := p, kind := k : Report } ∈ ({ small with reports := [{ port := p, kind := k }] } : State).reports) ∧
    (small.attached .A = true ∧ small.attached .D = false) ∧ 247 + 8 < 256 ∧ 256 ≤ 248 + 8 := by decide +kernel

theorem witness_CoolDownAndAuthorizationTakeTheirTick :
    ticked.porAsserted = false ∧ Port.D ∈ ticked.due.ports ∧ ticked.due.authorization = true ∧
    (∀ n ∈ [1, 2], (cooling n).porAsserted = false ∧ Port.D ∈ (cooling n).due.ports ∧
      ((cooling n).ports.get .D).state = .isolated ∧ ((cooling n).ports.get .D).coolDown = n) ∧
    (small.ports.get .A).state ≠ .isolated := by decide +kernel

/-- `small` in the last REFCLK cycle of a period, `d` due. -/
def lastCycle (d : Due) : State := { small with time := { small.time with count := 24999 }, due := d }

/-- Each premise of the tick's clauses: a lease that ends and none that does, a cool-down that ends and none. -/
theorem witness_TickAdvancesEveryCountdown :
    (small.porAsserted = false ∧ small.time.count + 1 < small.time.prescale ∧ small.due = Due.none ∧
      small.time.prescale ≤ ({ small.time with count := 24999 } : TimeBase).count + 1) ∧
    (({ small.device with authorization := 4094 } : Device).authorization + 1 < 4096 ∧ ¬4095 + 1 < 4096) ∧
    ((small.locks.get 0).grant = some { holder := .A, number := 7, lease := some 1 } ∧ 1 ≤ 1) ∧
    (∀ l, ((State.reset.locks.get l).grant.bind fun g => g.lease) = none) ∧
    (((cooling 1).ports.get .D).coolDown = 1 ∧ ((cooling 2).ports.get .D).coolDown ≠ 1) ∧
    (∀ d ∈ [Due.none, { Due.none with slots := [2, 5] }, { Due.none with locks := [0] }, { Due.none with ports := [.D] },
        { Due.none with authorization := true }],
      (lastCycle d).porAsserted = false ∧ (lastCycle d).time.prescale ≤ (lastCycle d).time.count + 1 ∧ (lastCycle d).due = d) ∧
    ((2 : SlotId) ∉ [(5 : SlotId)] ∧ (nextOf (exec (.lifetimeExpiry 2) (lastCycle { Due.none with slots := [2, 5] }))).isSome = true ∧
      (nextOf (exec (.leaseExpiry 0) (lastCycle { Due.none with locks := [0] }))).isSome = true ∧
      (nextOf (exec (.coolDownExpiry .D) (lastCycle { Due.none with ports := [.D] }))).isSome = true ∧
      (nextOf (exec .authorizationExpiry (lastCycle { Due.none with authorization := true }))).isSome = true) := by decide +kernel

/-- `s` with what falls due at the tick of `ticked` outstanding. -/
def overdue (s : State) : State := { s with due := ticked.due }

theorem witness_LifetimeExpiryWithdrawsTheMessage :
    ((overdue (queued (message .pending 0 (some 1)))).porAsserted = false ∧
      (5 : SlotId) ∈ (overdue (queued (message .pending 0 (some 1)))).due.slots ∧
      (overdue (queued (message .pending 0 (some 1)))).message? 5 = some (message .pending 0 (some 1)) ∧
      (queued (message .pending 0 (some 1))).publishQueue = [] ++ { slot := 5, publisher := .A, orphaned := false } :: []) ∧
    ((overdue (spreading (message .spreading 0 (some 1)) (.visit .A))).porAsserted = false ∧
      (5 : SlotId) ∈ (overdue (spreading (message .spreading 0 (some 1)) (.visit .A))).due.slots ∧
      (overdue (spreading (message .spreading 0 (some 1)) (.visit .A))).message? 5 = some (message .spreading 0 (some 1)) ∧
      (spreading (message .spreading 0 (some 1)) (.visit .A)).engine.isSome = true) ∧
    (ticked.porAsserted = false ∧ (2 : SlotId) ∈ ticked.due.slots ∧ ticked.message? 2 = some (message .live 1 (some 1)) ∧
      ticked.engine = none ∧ ticked.defn? 1 = some (channel .state (some 2)) ∧
      (channel .state (some 2)).current = some 2 ∧ ((ticked.sub? 1 .A).map fun b => b.new) = some true ∧
      ((ticked.sub? 1 .B).map fun b => b.new) = some false) ∧
    (({ ticked with
        slots := ticked.slots.set 1 { use := .message (message .live 0 (some 1)), refs := 2 } } : State).queues.get .B).any
      (fun e => decide (e.slot = 1)) = true ∧ (channel .stream none).current ≠ some 1 := by decide +kernel

/-! ### The invariants' premises -/

/-- A state with a cycle of REFCLK waiting, otherwise as after power-on. -/
def waiting : State := { State.reset with pending := [.refclkCycle] }

theorem witness_stepGoesOn : (nextOf (step waiting)).isSome = true := by decide +kernel

theorem witness_EveryStepKeepsThePayloadCanonical : waiting.PayloadCanonical := small_payloadCanonical [] rfl _ rfl

theorem witness_EveryStepKeepsSettingsInRange : waiting.InRange := by
  constructor <;> first | decide +kernel | (intro p; cases p <;> decide +kernel)

theorem witness_EveryStepKeepsTheLocksInOrder : waiting.LocksInOrder := by
  constructor <;> intro x <;> simp [waiting, State.reset, Lock.powerOn]

theorem witness_EveryStepKeepsCreditsAndAbsentPorts : waiting.AbsentHoldNothing ∧ waiting.CreditsBounded := by
  refine ⟨?_, fun p => by cases p <;> decide +kernel⟩
  constructor <;> intro x <;> simp [waiting, State.reset, Channel.powerOn, PortRecord.initial]

theorem witness_EveryStepKeepsQueuesWithinLimits : waiting.QueuesWithinLimits := by
  constructor <;> try intro x
  all_goals simp [waiting, State.reset, Channel.powerOn, State.sub?, State.defn?, State.entriesOf]

theorem witness_EveryStepKeepsWithinTheGeometry : waiting.WithinGeometry := by
  constructor <;> try intro x
  all_goals first
    | decide +kernel
    | (revert x; decide +kernel)
    | simp [waiting, State.reset, Channel.powerOn, Slot.free, Window.powerOn]

theorem witness_NoStepStopsWithinTheGeometry : waiting.WithinGeometry := witness_EveryStepKeepsWithinTheGeometry

theorem waiting_account (p : Port) :
    (waiting.ports.get p).account = (indices 256).countP fun i => decide ((waiting.slots.get i).use.account? = some p) := by
  have h : ∀ i : SlotId, (waiting.slots.get i).use = .free := by intro i; simp [waiting, State.reset, Slot.free]
  have h0 : (waiting.ports.get p).account = 0 := by cases p <;> rfl
  rw [h0, eq_comm, List.countP_eq_zero]
  intro i _
  simp [h i, SlotUse.account?]

theorem witness_EveryStepKeepsThePoolSound : waiting.WithinGeometry ∧ waiting.PoolSound := by
  refine ⟨witness_EveryStepKeepsWithinTheGeometry, ?_⟩
  constructor
  case account => exact waiting_account
  case counted => decide +kernel
  case freeIsZero => intro i; simp [waiting, State.reset, Slot.free]
  case freeListOnce => decide +kernel
  case freeListed => decide +kernel
  case onceQueued => decide +kernel
  all_goals simp [waiting, State.reset, Channel.powerOn, State.message?, State.inPhase, Slot.free]

end Sys2Proof.Tests
end

section
/-! What a step can do, said once: the answer of each command, the effect of each event and access, and the two stops. -/

namespace Sys2Proof.Machine

/-! ### Checks that pass -/

theorem State.absence_eq_none {s : State} {p : Port} : s.absence p = none ↔ (s.ports.get p).state = .attached := by
  unfold State.absence
  split <;> simp_all

theorem State.trafficCheck_eq_none {s : State} {p : Port} :
    s.trafficCheck p = none ↔ s.device.state = .run ∧ (s.ports.get p).state = .attached := by
  unfold State.trafficCheck
  split <;> simp_all [State.absence_eq_none]

theorem State.settingCheck_eq_none {s : State} {p : Port} :
    s.settingCheck p = none ↔ s.device.state = .config ∧ (s.ports.get p).state = .attached := by
  unfold State.settingCheck
  split
  · simp_all
  · next h =>
    have : s.device.state = .config := by cases e : s.device.state <;> simp_all
    simp_all [State.absence_eq_none]

theorem State.attached_eq_true {s : State} {p : Port} : s.attached p = true ↔ (s.ports.get p).state = .attached := by
  simp [State.attached]

/-! ### What a command makes of the state -/

/-- The answer of the block that owns command `c`. -/
def State.answerTo (s : State) (p : Port) (a : Words6) : Command → Answer
  | .attach => s.attachAnswer p a
  | .detach => s.detachAnswer p a
  | .queryPort => s.queryPortAnswer p a
  | .voteReset => s.voteResetAnswer p a
  | .withdrawVote => s.withdrawVoteAnswer p a
  | .start => s.startAnswer p a
  | .setGeometry => s.setGeometryAnswer p a
  | .setTimebase => s.setTimebaseAnswer p a
  | .setQuorum => s.setQuorumAnswer p a
  | .setWatermark => s.setWatermarkAnswer p a
  | .queryDevice => s.queryDeviceAnswer a
  | .reserve => s.reserveAnswer p a
  | .abandon => s.abandonAnswer p a
  | .publish => s.publishAnswer p a
  | .collect => s.collectAnswer p a
  | .take => s.takeAnswer p a
  | .done => s.doneAnswer p a
  | .discard => s.discardAnswer p a
  | .readState => s.readStateAnswer p a
  | .queryQueue => s.queryQueueAnswer p a
  | .acquire => s.acquireAnswer p a
  | .release => s.releaseAnswer p a
  | .renew => s.renewAnswer p a
  | .cancelWait => s.cancelWaitAnswer p a
  | .queryLock => s.queryLockAnswer p a
  | .defineChannel => s.defineChannelAnswer p a
  | .setChannel => s.setChannelAnswer p a
  | .subscribe => s.subscribeAnswer p a
  | .unsubscribe => s.unsubscribeAnswer p a
  | .suspend => s.suspendAnswer p a
  | .resume => s.resumeAnswer p a
  | .close => s.closeAnswer p a
  | .freezeChannel => s.freezeChannelAnswer p a
  | .setLease => s.setLeaseAnswer p a
  | .freezeLock => s.freezeLockAnswer p a
  | .queryChannel => s.queryChannelAnswer p a
  | .querySubscription => s.querySubscriptionAnswer p a

/-- A command's row takes the command and posts its block's answer. -/
theorem exec_row (c : Command) (p : Port) (s : State) :
    exec (c.row p) s = s.takeCommand p c fun a => s.answerTo p a c := by
  cases c <;> rfl

/-- What command `c` of port `p` with arguments `a` may make of the state before its answer is posted: nothing, or the effect of
the accepted command, with the checks that accepted it. -/
inductive State.Takes (s : State) (p : Port) (a : Words6) : Command → State → Prop
  | unchanged (c : Command) : s.Takes p a c s
  | attach (quota : a.w1.toNat ≤ s.geometry.slotCount) (quotaPos : 0 < a.w1.toNat)
      (cooled : (s.ports.get p).state = .isolated → (s.ports.get p).coolDown = 0)
      (absent : (s.ports.get p).state ≠ .attached) :
      s.Takes p a .attach ((s.updPort p fun _ => (s.ports.get p).attach a.w0 a.w1.toNat).updWindow p
        fun w => { w with cause := .none })
  | detach (att : (s.ports.get p).state = .attached) : s.Takes p a .detach (s.detached p)
  | voteReset (att : (s.ports.get p).state = .attached) : s.Takes p a .voteReset (s.castVote p)
  | withdrawVote (att : (s.ports.get p).state = .attached) : s.Takes p a .withdrawVote (s.withdrawVote p)
  | start (cfg : s.device.state = .config) (att : (s.ports.get p).state = .attached) :
      s.Takes p a .start { s with device := { s.device with state := .run } }
  | setGeometry (g : Geometry) (cfg : s.device.state = .config) (att : (s.ports.get p).state = .attached)
      (size : geometry? a.w0 = some g) : s.Takes p a .setGeometry (s.withGeometry g)
  | setTimebase (cfg : s.device.state = .config) (att : (s.ports.get p).state = .attached) :
      s.Takes p a .setTimebase { s with time := { s.time with prescale := a.w0.toNat + 1, count := 0 } }
  | setQuorum (cfg : s.device.state = .config) (att : (s.ports.get p).state = .attached)
      (range : a.w0 = 2 ∨ a.w0 = 3 ∨ a.w0 = 4) :
      s.Takes p a .setQuorum { s with device := { s.device with quorum := a.w0.toNat } }
  | setWatermark (cfg : s.device.state = .config) (att : (s.ports.get p).state = .attached)
      (range : a.w0.toNat ≤ s.geometry.slotCount) : s.Takes p a .setWatermark { s with watermark := a.w0.toNat }
  | reserve (ch : ChannelId) (i : SlotId) (rest : List SlotId) (run : s.device.state = .run)
      (att : (s.ports.get p).state = .attached) (unrestricted : s.restricted p = false)
      (unreserved : s.reservations.get p = none) (quota : (s.ports.get p).account < (s.ports.get p).quota)
      (head : s.freeList = i :: rest) :
      s.Takes p a .reserve ((s.reserveSlot p ch i rest).warnPool (rest.length + 1) rest.length)
  | abandon (i : SlotId) (att : (s.ports.get p).state = .attached) (reserved : s.reservations.get p = some i) :
      s.Takes p a .abandon ((s.release i).dropReservation p)
  | publish (i : SlotId) (ch : ChannelId) (q : Port) (d : ChannelDef) (run : s.device.state = .run)
      (att : (s.ports.get p).state = .attached) (unrestricted : s.restricted p = false)
      (reserved : s.reservation? p = some (i, ch, q)) (defined : s.defn? ch = some d)
      (passed : s.publishCheck p d a = none) : s.Takes p a .publish (s.acceptPublish p i ch q d a)
  | collect (c : Completion) (rest : List Completion) (run : s.device.state = .run)
      (att : (s.ports.get p).state = .attached) (oldest : s.completions.get p = c :: rest) :
      s.Takes p a .collect (({ s with completions := s.completions.set p rest } : State).updPort p
        fun r => { r with credits := r.credits + 1 })
  | take (x : Selector) (e : Entry) (run : s.device.state = .run) (att : (s.ports.get p).state = .attached)
      (empty : s.holds.get p = none) (selector : selector? a.w0 = some x)
      (oldest : (s.queues.get p).find? x.matches = some e) :
      s.Takes p a .take ((s.pullOldest p x.matches).setHold p (some { entry := e, source := .stream, pointer := 0 }))
  | discard (x : Selector) (e : Entry) (run : s.device.state = .run) (att : (s.ports.get p).state = .attached)
      (selector : selector? a.w0 = some x) (oldest : (s.queues.get p).find? x.matches = some e) :
      s.Takes p a .discard ((s.pullOldest p x.matches).release e.slot)
  | done (h : Hold) (run : s.device.state = .run) (att : (s.ports.get p).state = .attached)
      (held : s.holds.get p = some h) : s.Takes p a .done (s.emptyHold p)
  | readState (ch : ChannelId) (d : ChannelDef) (i : SlotId) (m : Message) (run : s.device.state = .run)
      (att : (s.ports.get p).state = .attached) (empty : s.holds.get p = none) (defined : s.defn? ch = some d)
      (current : d.current = some i) (message : s.message? i = some m) :
      s.Takes p a .readState (s.readCurrent p ch i m)
  | acquireFree (l : LockId) (att : (s.ports.get p).state = .attached) (unrestricted : s.restricted p = false)
      (free : (s.locks.get l).grant = none) : s.Takes p a .acquire (s.updLock l fun k => k.grantTo p)
  | acquireQueued (l : LockId) (g : Grant) (att : (s.ports.get p).state = .attached) (unrestricted : s.restricted p = false)
      (held : (s.locks.get l).grant = some g) (other : g.holder ≠ p) (notWaiting : s.waits.get p = none) :
      s.Takes p a .acquire (s.joinList p l)
  | release (l : LockId) (g : Grant) (att : (s.ports.get p).state = .attached) (held : (s.locks.get l).grant = some g)
      (own : g.holder = p) : s.Takes p a .release (s.handoff l)
  | renew (l : LockId) (g : Grant) (att : (s.ports.get p).state = .attached) (held : (s.locks.get l).grant = some g)
      (own : g.holder = p) : s.Takes p a .renew (s.updLock l Lock.renewed)
  | cancelWait (l : LockId) (att : (s.ports.get p).state = .attached) (waiting : p ∈ (s.locks.get l).waiters) :
      s.Takes p a .cancelWait (s.leaveList p l)
  | defineChannel (ch : ChannelId) (kind : ChannelKind) (publishers : BitVec 4) (unused : s.defn? ch = none) :
      s.Takes p a .defineChannel (s.updChannel ch fun c =>
        { c with
          defn := some
            { phase := .active, kind := kind, publishers := publishers, lifetime := a.w3.toNat,
              subs := PerPort.all none, current := none } })
  | setChannel (ch : ChannelId) (d : ChannelDef) (publishers : BitVec 4) (openFor : s.openJudge ch = .ok d) :
      s.Takes p a .setChannel (s.updDefn ch fun d => { d with publishers := publishers, lifetime := a.w3.toNat })
  | subscribeNew (ch : ChannelId) (q : Port) (depth : Nat) (policy : Policy) (d : ChannelDef)
      (named : channelPort? a.w0 = some (ch, q)) (packed : depthPolicy? a.w1 = some (depth, policy))
      (openFor : s.openJudge ch = .ok d) (absent : d.subs.get q = none) :
      s.Takes p a .subscribe (s.setSub ch q (some (Subscription.create depth policy a.w2 a.w3)))
  | subscribeAgain (ch : ChannelId) (q : Port) (depth : Nat) (policy : Policy) (d : ChannelDef) (b : Subscription)
      (named : channelPort? a.w0 = some (ch, q)) (packed : depthPolicy? a.w1 = some (depth, policy))
      (openFor : s.openJudge ch = .ok d) (present : d.subs.get q = some b) :
      s.Takes p a .subscribe
        ((s.setSub ch q (some { b with depth := depth, policy := policy, tagMatch := a.w2, tagMask := a.w3 })).trim q ch
          (s.excess q ch d.kind depth))
  | unsubscribe (ch : ChannelId) (q : Port) (d : ChannelDef) (b : Subscription)
      (named : channelPort? a.w0 = some (ch, q)) (openFor : s.openJudge ch = .ok d) (present : d.subs.get q = some b) :
      s.Takes p a .unsubscribe ((s.dropEntries q fun e => decide (e.channel = ch)).setSub ch q none)
  | suspend (ch : ChannelId) (d : ChannelDef) (defined : s.defn? ch = some d) (active : d.phase = .active) :
      s.Takes p a .suspend (s.setPhase ch d .suspended)
  | resume (ch : ChannelId) (d : ChannelDef) (defined : s.defn? ch = some d) (suspended : d.phase = .suspended) :
      s.Takes p a .resume (s.setPhase ch d .active)
  | closeDeferred (ch : ChannelId) (d : ChannelDef) (defined : s.defn? ch = some d) (spreading : s.spreadingOn ch = true) :
      s.Takes p a .close (s.updDefn ch fun e => { e with phase := .closing })
  | closeNow (ch : ChannelId) (d : ChannelDef) (defined : s.defn? ch = some d) (idle : s.spreadingOn ch = false) :
      s.Takes p a .close (s.closeChannel ch)
  | freezeChannel (ch : ChannelId) : s.Takes p a .freezeChannel (s.updChannel ch fun c => { c with frozen := true })
  | setLease (l : LockId) : s.Takes p a .setLease (s.updLock l fun k => { k with leaseSetting := a.w1.toNat })
  | freezeLock (l : LockId) : s.Takes p a .freezeLock (s.updLock l fun k => { k with frozen := true })
  | clearCounts (ch : ChannelId) (b : Subscription) (present : s.sub? ch p = some b) :
      s.Takes p a .querySubscription (s.updSub ch p Subscription.clearCounts)

section
variable (s : State) (p : Port) (a : Words6)

theorem State.attachAnswer_takes : s.Takes p a .attach (s.attachAnswer p a).state := by
  simp only [State.attachAnswer]
  split_ifs with h1 h2 h3
  · exact .unchanged _
  · exact .unchanged _
  · exact .unchanged _
  · simp only [not_or, not_lt] at h1
    obtain ⟨-, hpos, hq⟩ := h1
    refine .attach hq (Nat.pos_of_ne_zero fun e => hpos (BitVec.eq_of_toNat_eq (by simpa using e))) (fun hi => ?_) h3
    by_contra hc
    exact h2 ⟨hi, Nat.pos_of_ne_zero hc⟩

theorem State.detachAnswer_takes : s.Takes p a .detach (s.detachAnswer p a).state := by
  unfold State.detachAnswer
  split
  · exact .unchanged _
  · next h => exact .detach (State.absence_eq_none.1 h)

theorem State.queryPortAnswer_takes : s.Takes p a .queryPort (s.queryPortAnswer p a).state := by
  unfold State.queryPortAnswer
  split
  · exact .unchanged _
  · split_ifs <;> exact .unchanged _

theorem State.voteResetAnswer_takes : s.Takes p a .voteReset (s.voteResetAnswer p a).state := by
  unfold State.voteResetAnswer
  split
  · exact .unchanged _
  · next h => exact .voteReset (State.absence_eq_none.1 h)

theorem State.withdrawVoteAnswer_takes : s.Takes p a .withdrawVote (s.withdrawVoteAnswer p a).state := by
  unfold State.withdrawVoteAnswer
  split
  · exact .unchanged _
  · next h => exact .withdrawVote (State.absence_eq_none.1 h)

theorem State.startAnswer_takes : s.Takes p a .start (s.startAnswer p a).state := by
  unfold State.startAnswer
  split
  · exact .unchanged _
  · next h => exact .start (State.settingCheck_eq_none.1 h).1 (State.settingCheck_eq_none.1 h).2

theorem State.setGeometryAnswer_takes : s.Takes p a .setGeometry (s.setGeometryAnswer p a).state := by
  unfold State.setGeometryAnswer
  split
  · exact .unchanged _
  · next h =>
    obtain ⟨cfg, att⟩ := State.settingCheck_eq_none.1 h
    split
    · exact .unchanged _
    · next g hg => exact .setGeometry g cfg att hg

theorem State.setTimebaseAnswer_takes : s.Takes p a .setTimebase (s.setTimebaseAnswer p a).state := by
  unfold State.setTimebaseAnswer
  split
  · exact .unchanged _
  · next h => exact .setTimebase (State.settingCheck_eq_none.1 h).1 (State.settingCheck_eq_none.1 h).2

theorem State.setQuorumAnswer_takes : s.Takes p a .setQuorum (s.setQuorumAnswer p a).state := by
  unfold State.setQuorumAnswer
  split
  · exact .unchanged _
  · next h =>
    split
    · next hr => exact .setQuorum (State.settingCheck_eq_none.1 h).1 (State.settingCheck_eq_none.1 h).2 hr
    · exact .unchanged _

theorem State.setWatermarkAnswer_takes : s.Takes p a .setWatermark (s.setWatermarkAnswer p a).state := by
  unfold State.setWatermarkAnswer
  split
  · exact .unchanged _
  · next h =>
    split
    · exact .unchanged _
    · next hr => exact .setWatermark (State.settingCheck_eq_none.1 h).1 (State.settingCheck_eq_none.1 h).2 (Nat.le_of_not_lt hr)

theorem State.reserveAnswer_takes : s.Takes p a .reserve (s.reserveAnswer p a).state := by
  unfold State.reserveAnswer
  split
  · exact .unchanged _
  next h =>
  obtain ⟨run, att⟩ := State.trafficCheck_eq_none.1 h
  split
  · exact .unchanged _
  next h1 =>
  split
  · exact .unchanged _
  next h2 =>
  split
  · exact .unchanged _
  next ch _ =>
  split
  · exact .unchanged _
  split
  · exact .unchanged _
  split
  · exact .unchanged _
  next h4 =>
  split
  · exact .unchanged _
  next i rest hl =>
  exact .reserve ch i rest run att (by simpa using h1) (by simpa using h2) (Nat.lt_of_not_le h4) hl

theorem State.abandonAnswer_takes : s.Takes p a .abandon (s.abandonAnswer p a).state := by
  unfold State.abandonAnswer
  split
  · exact .unchanged _
  next h =>
  split
  · exact .unchanged _
  next i hi => exact .abandon i (State.absence_eq_none.1 h) hi

theorem State.publishAnswer_takes : s.Takes p a .publish (s.publishAnswer p a).state := by
  unfold State.publishAnswer
  split
  · exact .unchanged _
  next h =>
  obtain ⟨run, att⟩ := State.trafficCheck_eq_none.1 h
  split_ifs with h1
  · exact .unchanged _
  split
  · exact .unchanged _
  next i ch q hr =>
  split
  · exact .unchanged _
  next d hd =>
  split
  · exact .unchanged _
  next hc => exact .publish i ch q d run att (by simpa using h1) hr hd hc

theorem State.collectAnswer_takes : s.Takes p a .collect (s.collectAnswer p a).state := by
  unfold State.collectAnswer
  split
  · exact .unchanged _
  next h =>
  obtain ⟨run, att⟩ := State.trafficCheck_eq_none.1 h
  split
  · exact .unchanged _
  next c rest hc => exact .collect c rest run att hc

/-- What TAKE and DISCARD select is the oldest entry of their queue that the selector of ARG0 matches. -/
theorem State.entryJudge_eq_ok {s : State} {p : Port} {w : Word} {x : Selector} {e : Entry}
    (h : s.entryJudge p w = .ok (x, e)) : selector? w = some x ∧ (s.queues.get p).find? x.matches = some e := by
  unfold State.entryJudge at h
  split at h
  · cases h
  next y hy =>
  split at h
  · cases h
  split at h
  · cases h
  next f hf =>
  cases h
  exact ⟨hy, hf⟩

theorem State.takeAnswer_takes : s.Takes p a .take (s.takeAnswer p a).state := by
  unfold State.takeAnswer
  split
  · exact .unchanged _
  next h =>
  obtain ⟨run, att⟩ := State.trafficCheck_eq_none.1 h
  split_ifs with h1
  · exact .unchanged _
  split
  · exact .unchanged _
  next x e hj =>
  obtain ⟨hx, he⟩ := State.entryJudge_eq_ok hj
  exact .take x e run att (by simpa using h1) hx he

theorem State.discardAnswer_takes : s.Takes p a .discard (s.discardAnswer p a).state := by
  unfold State.discardAnswer
  split
  · exact .unchanged _
  next h =>
  obtain ⟨run, att⟩ := State.trafficCheck_eq_none.1 h
  split
  · exact .unchanged _
  next x e hj =>
  obtain ⟨hx, he⟩ := State.entryJudge_eq_ok hj
  exact .discard x e run att hx he

theorem State.doneAnswer_takes : s.Takes p a .done (s.doneAnswer p a).state := by
  unfold State.doneAnswer
  split
  · exact .unchanged _
  next h =>
  obtain ⟨run, att⟩ := State.trafficCheck_eq_none.1 h
  split
  · exact .unchanged _
  next x hx => exact .done x run att hx

/-- READ_STATE of a chosen channel reads its current value or changes nothing. -/
theorem State.readChannel_takes (ch : ChannelId) (run : s.device.state = .run) (att : (s.ports.get p).state = .attached)
    (empty : s.holds.get p = none) : s.Takes p a .readState (s.readChannel p ch).state := by
  unfold State.readChannel
  split
  · exact .unchanged _
  next i hi =>
  split
  · exact .unchanged _
  next m hm =>
  obtain ⟨d, hd, hc⟩ := Option.bind_eq_some_iff.1 hi
  exact .readState ch d i m run att empty hd hc hm

theorem State.readStateAnswer_takes : s.Takes p a .readState (s.readStateAnswer p a).state := by
  unfold State.readStateAnswer
  split
  · exact .unchanged _
  next h =>
  obtain ⟨run, att⟩ := State.trafficCheck_eq_none.1 h
  split
  · exact .unchanged _
  · split
    · exact .unchanged _
    · split_ifs with h1
      · exact .unchanged _
      · exact s.readChannel_takes p a _ run att (by simpa using h1)
  · split_ifs with h1
    · exact .unchanged _
    · split
      · exact .unchanged _
      · exact s.readChannel_takes p a _ run att (by simpa using h1)

theorem State.queryQueueAnswer_takes : s.Takes p a .queryQueue (s.queryQueueAnswer p a).state := by
  unfold State.queryQueueAnswer
  split
  · exact .unchanged _
  · split <;> exact .unchanged _

theorem State.acquireAnswer_takes : s.Takes p a .acquire (s.acquireAnswer p a).state := by
  unfold State.acquireAnswer
  split
  · exact .unchanged _
  next h =>
  have att := State.absence_eq_none.1 h
  split
  · exact .unchanged _
  next h1 =>
  split
  · exact .unchanged _
  next l _ =>
  split
  · exact .unchanged _
  dsimp only
  split
  · next hg => exact .acquireFree l att (by simpa using h1) hg
  next g hg =>
  split_ifs with h3 h4 h5
  · exact .unchanged _
  · exact .unchanged _
  · exact .unchanged _
  · exact .acquireQueued l g att (by simpa using h1) hg h3 (by simpa using h4)

/-- RELEASE and RENEW are accepted for a lock that the port holds. -/
theorem State.grantJudge_eq_ok {s : State} {p : Port} {a : Words6} {l : LockId} (h : s.grantJudge p a = .ok l) :
    (s.ports.get p).state = .attached ∧ ∃ g, (s.locks.get l).grant = some g ∧ g.holder = p := by
  unfold State.grantJudge at h
  split at h
  · cases h
  next hn =>
  split at h
  · cases h
  next l' _ =>
  split at h
  · cases h
  next hc =>
  cases h
  refine ⟨State.absence_eq_none.1 hn, ?_⟩
  unfold Lock.grantCheck at hc
  split_ifs at hc with h1
  rw [Option.any_eq_true] at h1
  obtain ⟨g, hg, hh⟩ := h1
  simp only [Bool.and_eq_true, decide_eq_true_eq] at hh
  exact ⟨g, hg, hh.1⟩

theorem State.releaseAnswer_takes : s.Takes p a .release (s.releaseAnswer p a).state := by
  unfold State.releaseAnswer
  split
  · exact .unchanged _
  next l hj =>
  obtain ⟨att, g, hg, own⟩ := State.grantJudge_eq_ok hj
  split <;> exact .release l g att hg own

theorem State.renewAnswer_takes : s.Takes p a .renew (s.renewAnswer p a).state := by
  unfold State.renewAnswer
  split
  · exact .unchanged _
  next l hj =>
  obtain ⟨att, g, hg, own⟩ := State.grantJudge_eq_ok hj
  exact .renew l g att hg own

theorem State.cancelWaitAnswer_takes : s.Takes p a .cancelWait (s.cancelWaitAnswer p a).state := by
  unfold State.cancelWaitAnswer
  split
  · exact .unchanged _
  next h =>
  split
  · exact .unchanged _
  next l _ =>
  split_ifs with h1
  · exact .cancelWait l (State.absence_eq_none.1 h) h1
  · split
    · split_ifs <;> exact .unchanged _
    · exact .unchanged _

theorem State.queryLockAnswer_takes : s.Takes p a .queryLock (s.queryLockAnswer p a).state := by
  unfold State.queryLockAnswer
  split
  · exact .unchanged _
  · split <;> exact .unchanged _

theorem State.defineChannelAnswer_takes : s.Takes p a .defineChannel (s.defineChannelAnswer p a).state := by
  unfold State.defineChannelAnswer
  split
  · exact .unchanged _
  next ch _ =>
  split
  · next kind publishers _ _ =>
    split
    · exact .unchanged _
    · next h => exact .defineChannel ch kind publishers h
  · exact .unchanged _

theorem State.setChannelAnswer_takes : s.Takes p a .setChannel (s.setChannelAnswer p a).state := by
  unfold State.setChannelAnswer
  split
  · exact .unchanged _
  next ch _ =>
  split
  · exact .unchanged _
  next publishers _ =>
  split
  · exact .unchanged _
  next d hd => exact .setChannel ch d publishers hd

theorem State.subscribeAnswer_takes : s.Takes p a .subscribe (s.subscribeAnswer p a).state := by
  unfold State.subscribeAnswer
  split
  · exact .unchanged _
  split
  · next ch q depth policy h1 h2 =>
    split
    · exact .unchanged _
    next d hd =>
    split
    · next hs => exact .subscribeNew ch q depth policy d h1 h2 hd hs
    · next b hs => exact .subscribeAgain ch q depth policy d b h1 h2 hd hs
  · exact .unchanged _

theorem State.unsubscribeAnswer_takes : s.Takes p a .unsubscribe (s.unsubscribeAnswer p a).state := by
  unfold State.unsubscribeAnswer
  split
  · exact .unchanged _
  split
  · exact .unchanged _
  next ch q h1 =>
  split
  · exact .unchanged _
  next d hd =>
  split
  · exact .unchanged _
  next b hs => exact .unsubscribe ch q d b h1 hd hs

theorem State.suspendAnswer_takes : s.Takes p a .suspend (s.suspendAnswer p a).state := by
  unfold State.suspendAnswer
  split
  · exact .unchanged _
  next ch _ =>
  split
  · exact .unchanged _
  next d hd =>
  split
  · next hp => exact .suspend ch d hd hp
  · exact .unchanged _

theorem State.resumeAnswer_takes : s.Takes p a .resume (s.resumeAnswer p a).state := by
  unfold State.resumeAnswer
  split
  · exact .unchanged _
  next ch _ =>
  split
  · exact .unchanged _
  next d hd =>
  split
  · next hp => exact .resume ch d hd hp
  · exact .unchanged _

theorem State.closeAnswer_takes : s.Takes p a .close (s.closeAnswer p a).state := by
  unfold State.closeAnswer
  split
  · exact .unchanged _
  next ch _ =>
  split
  · exact .unchanged _
  next d hd =>
  split_ifs with h1 h2 h3
  · exact .unchanged _
  · exact .unchanged _
  · exact .closeDeferred ch d hd h3
  · exact .closeNow ch d hd (by simpa using h3)

theorem State.freezeChannelAnswer_takes : s.Takes p a .freezeChannel (s.freezeChannelAnswer p a).state := by
  unfold State.freezeChannelAnswer
  split
  · exact .unchanged _
  next ch _ =>
  split_ifs with h1
  · exact .unchanged _
  split
  · exact .unchanged _
  split_ifs
  · exact .unchanged _
  · exact .freezeChannel ch

theorem State.setLeaseAnswer_takes : s.Takes p a .setLease (s.setLeaseAnswer p a).state := by
  unfold State.setLeaseAnswer
  split
  · exact .unchanged _
  · exact .setLease _

theorem State.freezeLockAnswer_takes : s.Takes p a .freezeLock (s.freezeLockAnswer p a).state := by
  unfold State.freezeLockAnswer
  split
  · exact .unchanged _
  · exact .freezeLock _

theorem State.queryChannelAnswer_takes : s.Takes p a .queryChannel (s.queryChannelAnswer p a).state := by
  unfold State.queryChannelAnswer
  split
  · exact .unchanged _
  · split <;> exact .unchanged _

theorem State.querySubscriptionAnswer_takes : s.Takes p a .querySubscription (s.querySubscriptionAnswer p a).state := by
  unfold State.querySubscriptionAnswer
  split
  · exact .unchanged _
  split
  · exact .unchanged _
  next ch q _ =>
  split
  · exact .unchanged _
  next h1 =>
  split
  · exact .unchanged _
  next b hb =>
  split_ifs with h2
  · have own : q = p := by
      by_contra hq
      exact h1 (.inr ⟨h2, hq⟩)
    subst own
    exact .clearCounts ch b hb
  · exact .unchanged _

/-- The state in which the owning block leaves the part before the answer is posted. -/
theorem State.answerTo_takes (c : Command) : s.Takes p a c (s.answerTo p a c).state := by
  cases c
  case attach => exact s.attachAnswer_takes p a
  case detach => exact s.detachAnswer_takes p a
  case queryPort => exact s.queryPortAnswer_takes p a
  case voteReset => exact s.voteResetAnswer_takes p a
  case withdrawVote => exact s.withdrawVoteAnswer_takes p a
  case start => exact s.startAnswer_takes p a
  case setGeometry => exact s.setGeometryAnswer_takes p a
  case setTimebase => exact s.setTimebaseAnswer_takes p a
  case setQuorum => exact s.setQuorumAnswer_takes p a
  case setWatermark => exact s.setWatermarkAnswer_takes p a
  case queryDevice => exact .unchanged _
  case reserve => exact s.reserveAnswer_takes p a
  case abandon => exact s.abandonAnswer_takes p a
  case publish => exact s.publishAnswer_takes p a
  case collect => exact s.collectAnswer_takes p a
  case take => exact s.takeAnswer_takes p a
  case done => exact s.doneAnswer_takes p a
  case discard => exact s.discardAnswer_takes p a
  case readState => exact s.readStateAnswer_takes p a
  case queryQueue => exact s.queryQueueAnswer_takes p a
  case acquire => exact s.acquireAnswer_takes p a
  case release => exact s.releaseAnswer_takes p a
  case renew => exact s.renewAnswer_takes p a
  case cancelWait => exact s.cancelWaitAnswer_takes p a
  case queryLock => exact s.queryLockAnswer_takes p a
  case defineChannel => exact s.defineChannelAnswer_takes p a
  case setChannel => exact s.setChannelAnswer_takes p a
  case subscribe => exact s.subscribeAnswer_takes p a
  case unsubscribe => exact s.unsubscribeAnswer_takes p a
  case suspend => exact s.suspendAnswer_takes p a
  case resume => exact s.resumeAnswer_takes p a
  case close => exact s.closeAnswer_takes p a
  case freezeChannel => exact s.freezeChannelAnswer_takes p a
  case setLease => exact s.setLeaseAnswer_takes p a
  case freezeLock => exact s.freezeLockAnswer_takes p a
  case queryChannel => exact s.queryChannelAnswer_takes p a
  case querySubscription => exact s.querySubscriptionAnswer_takes p a

end

end Sys2Proof.Machine
end

section
/-! The effects of events and of accesses to the window, the two stops of the model, and the step lemma that every invariant uses. -/

namespace Sys2Proof.Machine

/-! ### What an event or an access makes of the state -/

/-- What a row that takes no command may make of the state, with the condition under which it occurs. -/
inductive State.Happens (s : State) : State → Prop
  | unchanged : s.Happens s
  | locationFault (p : Port) (r : Response) (origin : Byte) : s.Happens (s.locationFaulted p r origin)
  | commandIssued (p : Port) (c : Command) (ready : (s.windows.get p).issued = none) :
      s.Happens (s.updWindow p fun w => w.issue c)
  | codeRejected (p : Port) (code : Byte) (ready : (s.windows.get p).issued = none) :
      s.Happens (((s.updWindow p fun w => w.rejectCode code).raise p .fault).report p .fault)
  | filled (p : Port) (i : SlotId) (w : Word) (reserved : s.reservations.get p = some i)
      (below : (s.windows.get p).fillPointer < s.geometry.slotSize)
      (stored : s.slotBase i + (s.windows.get p).fillPointer + 1 < Config.storeSize) :
      s.Happens ((s.storeWord i (s.windows.get p).fillPointer w).updWindow p
        fun x => { x with fillPointer := (s.windows.get p).fillPointer + 2 })
  | fillPointed (p : Port) (i : SlotId) (w : Word) (reserved : s.reservations.get p = some i)
      (range : s.pointerInRange w = true) : s.Happens (s.updWindow p fun x => { x with fillPointer := w.toNat })
  | driven (p : Port) (w : Word) : s.Happens (s.driveData p w)
  | dataRead (p : Port) (h : Hold) (held : s.holds.get p = some h) (below : h.pointer < h.entry.length) :
      s.Happens ((s.driveData p (s.heldWord h)).setHold p (some { h with pointer := h.pointer + 2 }))
  | readPointed (p : Port) (h : Hold) (w : Word) (held : s.holds.get p = some h) (range : s.pointerInRange w = true) :
      s.Happens (s.setHold p (some { h with pointer := w.toNat }))
  | eventsWritten (p : Port) (f : EventUnit → EventUnit) : s.Happens (s.updEvents p f)
  | ticksRead (p : Port) :
      s.Happens ((s.updWindow p fun w => { w with capture := highWord s.time.ticks }).driveData p (lowWord s.time.ticks))
  | plainWritten (p : Port) (off : BitVec 6) (w : Word) : s.Happens (s.writePlain p off w)
  | powerOn : s.Happens s.powerOn
  | pornReleased : s.Happens { s with porAsserted := false }
  | portReset (p : Port) : s.Happens (s.portReset p)
  | ticked (completes : s.tickNext = true) : s.Happens s.baseTick
  | counted (before : s.tickNext = false) : s.Happens { s with time := { s.time with count := s.time.count + 1 } }
  | lifetimeEnds (i : SlotId) (due : i ∈ s.due.slots) : s.Happens (s.takeLifetime i)
  | leasesTick (l : LockId) (due : l ∈ s.due.locks) : s.Happens s.takeLeases
  | coolDownsTick (p : Port) (due : p ∈ s.due.ports) : s.Happens s.takeCoolDowns
  | authorizationTicks (due : s.due.authorization = true) : s.Happens s.takeAuthorization
  | scored (p : Port) (k : ReportKind) (reported : { port := p, kind := k } ∈ s.reports) :
      s.Happens (({ s with reports := s.reports.erase { port := p, kind := k } } : State).score p k)
  | fanOutStarts (r : Request) (rest : List Request) (m : Message) (idle : s.engine = none)
      (head : s.publishQueue = r :: rest) (message : s.message? r.slot = some m) : s.Happens (s.startFanOut r rest m)
  | visited (f : FanOut) (p : Port) (m : Message) (spreading : s.engine = some f) (next : f.cursor = .visit p)
      (message : s.message? f.request.slot = some m) : s.Happens (s.visit f p m)
  | fanOutEnds (f : FanOut) (m : Message) (spreading : s.engine = some f) (finished : f.cursor = .finish)
      (message : s.message? f.request.slot = some m) : s.Happens (s.endFanOut f m)

/-- Where the model stops: FILL_DATA and READ_DATA of a slot whose payload would stand outside the store (log 17). -/
inductive State.Stops (s : State) : Instr → Prop
  | fill (p : Port) (i : SlotId) (w : Word) (row : Instr) (named : row = .fillData p w ∨ row = .registerWrite p 0x20 w)
      (reserved : s.reservations.get p = some i) (below : (s.windows.get p).fillPointer < s.geometry.slotSize)
      (outside : Config.storeSize ≤ s.slotBase i + (s.windows.get p).fillPointer + 1) : s.Stops row
  | read (p : Port) (h : Hold) (held : s.holds.get p = some h) (below : h.pointer < h.entry.length)
      (outside : Config.storeSize ≤ s.slotBase h.entry.slot + h.pointer + 1) : s.Stops (.readData p)

/-! ### The rows that take no command -/

section
variable (s : State) (p : Port) (w : Word)

theorem State.writeCommand_happens : s.Happens (s.writeCommand p w) := by
  unfold State.writeCommand
  split
  · rw [State.locationFault_eq]
    exact .locationFault p _ _
  · next h =>
    split
    · exact .commandIssued p _ h
    · exact .codeRejected p _ h

theorem State.fillPointer_happens : s.Happens (s.fillPointer p w) := by
  unfold State.fillPointer
  split
  · exact .unchanged
  split
  · exact s.locationFault_eq p _ 0x21 ▸ .locationFault p _ 0x21
  next i hi =>
  split
  · next hr => exact .fillPointed p i w hi hr
  · exact s.locationFault_eq p _ 0x21 ▸ .locationFault p _ 0x21

theorem State.readPointer_happens : s.Happens (s.readPointer p w) := by
  unfold State.readPointer
  split
  · exact .unchanged
  split
  · exact .unchanged
  next h hh =>
  split
  · next hr => exact .readPointed p h w hh hr
  · exact s.locationFault_eq p _ 0x25 ▸ .locationFault p _ 0x25

/-- A write to FILL_DATA goes on, or stops at the store's bound. -/
theorem State.fillData_cases :
    (∃ t, s.fillData p w = .next t ∧ s.Happens t) ∨
      s.fillData p w = .fault .payloadStoreBounds ∧ ∃ i, s.reservations.get p = some i ∧
        (s.windows.get p).fillPointer < s.geometry.slotSize ∧
        Config.storeSize ≤ s.slotBase i + (s.windows.get p).fillPointer + 1 := by
  unfold State.fillData
  split
  · exact .inl ⟨_, rfl, .unchanged⟩
  split
  · exact .inl ⟨_, rfl, s.locationFault_eq p _ 0x20 ▸ .locationFault p _ 0x20⟩
  next i hi =>
  dsimp only
  split
  · next hk =>
    split
    · next hs => exact .inl ⟨_, rfl, .filled p i w hi hk hs⟩
    · next hs => exact .inr ⟨rfl, i, hi, hk, Nat.le_of_not_lt hs⟩
  · exact .inl ⟨_, rfl, s.locationFault_eq p _ 0x20 ▸ .locationFault p _ 0x20⟩

theorem State.readable_eq_some {s : State} {p : Port} {h : Hold} (hr : s.readable p = some h) :
    s.attached p = true ∧ s.holds.get p = some h ∧ h.pointer < h.entry.length := by
  unfold State.readable at hr
  split at hr
  · next ha =>
    obtain ⟨h1, h2⟩ := Option.filter_eq_some_iff.1 hr
    exact ⟨ha, h1, by simpa using h2⟩
  · cases hr

/-- A read of READ_DATA goes on, or stops at the store's bound. -/
theorem State.readPayload_cases :
    (∃ t, s.readPayload p = .next t ∧ s.Happens t) ∨
      s.readPayload p = .fault .payloadStoreBounds ∧ s.Stops (.readData p) := by
  unfold State.readPayload
  split
  · exact .inl ⟨_, rfl, .driven p 0⟩
  split
  · exact .inl ⟨_, rfl, .driven p 0⟩
  next h hr =>
  obtain ⟨-, held, below⟩ := State.readable_eq_some hr
  split
  · exact .inl ⟨_, rfl, .dataRead p h held below⟩
  · next hs => exact .inr ⟨rfl, .read p h held below (Nat.le_of_not_lt hs)⟩

theorem State.fanOutReady_eq_some {s : State} {r : Request} {rest : List Request} {m : Message}
    (h : s.fanOutReady = some (r, rest, m)) :
    s.engine = none ∧ s.publishQueue = r :: rest ∧ s.message? r.slot = some m := by
  unfold State.fanOutReady at h
  split at h
  · cases h
  next h0 =>
  split at h
  · cases h
  next r' rest' hq =>
  obtain ⟨m', hm, e⟩ := Option.map_eq_some_iff.1 h
  cases e
  simp only [Bool.or_eq_true, not_or] at h0
  exact ⟨by simpa using h0.2, hq, hm⟩

theorem State.placementReady_eq_some {s : State} {f : FanOut} {p : Port} {m : Message}
    (h : s.placementReady = some (f, p, m)) :
    s.engine = some f ∧ f.cursor = .visit p ∧ s.message? f.request.slot = some m := by
  unfold State.placementReady at h
  split at h
  · cases h
  split at h
  · cases h
  next f' hf =>
  split at h
  · cases h
  next p' hp =>
  obtain ⟨m', hm, e⟩ := Option.map_eq_some_iff.1 h
  cases e
  exact ⟨hf, hp, hm⟩

theorem State.endReady_eq_some {s : State} {f : FanOut} {m : Message} (h : s.endReady = some (f, m)) :
    s.engine = some f ∧ f.cursor = .finish ∧ s.message? f.request.slot = some m := by
  unfold State.endReady at h
  split at h
  · cases h
  split at h
  · cases h
  next f' hf =>
  split at h
  · cases h
  next hp =>
  obtain ⟨m', hm, e⟩ := Option.map_eq_some_iff.1 h
  cases e
  exact ⟨hf, hp, hm⟩

end

/-! ### Every row -/

/-- What a row may make of the state: the posted answer of an issued command, or the effect of an event or access. -/
inductive State.Steps (s : State) : State → Prop
  | command (p : Port) (c : Command) (a : Words6) (issued : s.issues p c a) : s.Steps ((s.answerTo p a c).post p c)
  | event (t : State) (h : s.Happens t) : s.Steps t

/-- A row goes on with one of the effects named, or stops where FILL_DATA or READ_DATA meets the store's bound. -/
def State.Outcomes (s : State) (i : Instr) : Prop :=
  (∃ t, exec i s = .next t ∧ s.Steps t) ∨ exec i s = .fault .payloadStoreBounds ∧ s.Stops i

section
variable {s : State}

theorem State.outcomes_row (s : State) (c : Command) (p : Port) : s.Outcomes (c.row p) := by
  obtain ⟨t, h, e | ⟨a, hi, rfl⟩⟩ := State.takeCommand_next s p c fun a => s.answerTo p a c
  · exact .inl ⟨t, (exec_row c p s).trans h, .event t (e ▸ .unchanged)⟩
  · exact .inl ⟨_, (exec_row c p s).trans h, .command p c a hi⟩

theorem State.outcomes_next {i : Instr} {t : State} (h : exec i s = .next t) (k : s.Happens t) : s.Outcomes i :=
  .inl ⟨t, h, .event t k⟩

/-- A row that PORn suspends. -/
theorem State.outcomes_unlessPowerOn {i : Instr} {t : State} (h : exec i s = s.unlessPowerOn t) (k : s.Happens t) :
    s.Outcomes i := by
  unfold State.unlessPowerOn at h
  split at h
  · exact .inl ⟨s, h, .event s .unchanged⟩
  · exact .inl ⟨t, h, .event t k⟩

/-- A write to FILL_DATA, by either row that carries it. -/
theorem State.outcomes_fillData {i : Instr} {p : Port} {w : Word} (h : exec i s = s.fillData p w)
    (named : i = .fillData p w ∨ i = .registerWrite p 0x20 w) : s.Outcomes i := by
  rcases s.fillData_cases p w with ⟨t, ht, k⟩ | ⟨hf, j, h1, h2, h3⟩
  · exact .inl ⟨t, h.trans ht, .event t k⟩
  · exact .inr ⟨h.trans hf, .fill p j w i named h1 h2 h3⟩

/-- A write at an offset of the window has the effect that the offset's own rule gives it. -/
theorem State.outcomes_registerWrite (s : State) (p : Port) (off : BitVec 6) (w : Word) :
    s.Outcomes (.registerWrite p off w) := by
  have e : exec (.registerWrite p off w) s = s.busWrite p off w := rfl
  unfold State.busWrite at e
  split at e
  · exact State.outcomes_unlessPowerOn e (s.writeCommand_happens p w)
  · exact State.outcomes_unlessPowerOn e (.eventsWritten p _)
  · exact State.outcomes_unlessPowerOn e (.eventsWritten p _)
  · exact State.outcomes_unlessPowerOn e (.eventsWritten p _)
  · exact State.outcomes_unlessPowerOn e (.eventsWritten p _)
  · exact State.outcomes_unlessPowerOn e (.eventsWritten p _)
  · next h20 =>
    have : off = 0x20 := BitVec.eq_of_toNat_eq h20
    exact State.outcomes_fillData e (.inr (by rw [this]))
  · exact State.outcomes_unlessPowerOn e (s.fillPointer_happens p w)
  · exact State.outcomes_unlessPowerOn e (s.readPointer_happens p w)
  · exact State.outcomes_unlessPowerOn e (.plainWritten p off w)

/-- A condition under which an event occurs, else nothing changes (log 1). -/
theorem State.happens_ite {c : Prop} [Decidable c] {t : State} (h : c → s.Happens t) : s.Happens (if c then t else s) := by
  split
  · next hc => exact h hc
  · exact .unchanged

/-- Every row's outcomes. -/
theorem State.outcomes (s : State) (i : Instr) : s.Outcomes i := by
  cases i
  case attach p => exact s.outcomes_row .attach p
  case detach p => exact s.outcomes_row .detach p
  case queryPort p => exact s.outcomes_row .queryPort p
  case voteReset p => exact s.outcomes_row .voteReset p
  case withdrawVote p => exact s.outcomes_row .withdrawVote p
  case start p => exact s.outcomes_row .start p
  case setGeometry p => exact s.outcomes_row .setGeometry p
  case setTimebase p => exact s.outcomes_row .setTimebase p
  case setQuorum p => exact s.outcomes_row .setQuorum p
  case setWatermark p => exact s.outcomes_row .setWatermark p
  case queryDevice p => exact s.outcomes_row .queryDevice p
  case reserve p => exact s.outcomes_row .reserve p
  case abandon p => exact s.outcomes_row .abandon p
  case publish p => exact s.outcomes_row .publish p
  case collect p => exact s.outcomes_row .collect p
  case take p => exact s.outcomes_row .take p
  case done p => exact s.outcomes_row .done p
  case discard p => exact s.outcomes_row .discard p
  case readState p => exact s.outcomes_row .readState p
  case queryQueue p => exact s.outcomes_row .queryQueue p
  case acquire p => exact s.outcomes_row .acquire p
  case release p => exact s.outcomes_row .release p
  case renew p => exact s.outcomes_row .renew p
  case cancelWait p => exact s.outcomes_row .cancelWait p
  case queryLock p => exact s.outcomes_row .queryLock p
  case defineChannel p => exact s.outcomes_row .defineChannel p
  case setChannel p => exact s.outcomes_row .setChannel p
  case subscribe p => exact s.outcomes_row .subscribe p
  case unsubscribe p => exact s.outcomes_row .unsubscribe p
  case suspend p => exact s.outcomes_row .suspend p
  case resume p => exact s.outcomes_row .resume p
  case close p => exact s.outcomes_row .close p
  case freezeChannel p => exact s.outcomes_row .freezeChannel p
  case setLease p => exact s.outcomes_row .setLease p
  case freezeLock p => exact s.outcomes_row .freezeLock p
  case queryChannel p => exact s.outcomes_row .queryChannel p
  case querySubscription p => exact s.outcomes_row .querySubscription p
  case collision p w => exact State.outcomes_unlessPowerOn rfl (s.writeCommand_happens p w)
  case unknownCommand p w => exact State.outcomes_unlessPowerOn rfl (s.writeCommand_happens p w)
  case commandIssue p w => exact State.outcomes_unlessPowerOn rfl (s.writeCommand_happens p w)
  case fillData p w => exact State.outcomes_fillData rfl (.inl rfl)
  case fillPointer p w => exact State.outcomes_unlessPowerOn rfl (s.fillPointer_happens p w)
  case readData p =>
    rcases s.readPayload_cases p with ⟨t, ht, k⟩ | ⟨hf, k⟩
    · exact State.outcomes_next ht k
    · exact .inr ⟨hf, k⟩
  case readPointer p w => exact State.outcomes_unlessPowerOn rfl (s.readPointer_happens p w)
  case eventPending p w => exact State.outcomes_unlessPowerOn rfl (.eventsWritten p _)
  case eventEnable p w => exact State.outcomes_unlessPowerOn rfl (.eventsWritten p _)
  case eventPriority p h w => exact State.outcomes_unlessPowerOn rfl (.eventsWritten p _)
  case threshold p w => exact State.outcomes_unlessPowerOn rfl (.eventsWritten p _)
  case tickCount p h =>
    refine State.outcomes_next (i := .tickCount p h) rfl ?_
    split
    · exact .driven p 0
    · cases h
      · exact .ticksRead p
      · exact .driven p _
  case registerWrite p off w => exact s.outcomes_registerWrite p off w
  case powerOnReset => exact State.outcomes_next rfl .powerOn
  case pornRelease => exact State.outcomes_next rfl .pornReleased
  case portReset p => exact State.outcomes_unlessPowerOn rfl (.portReset p)
  case baseTick => exact State.outcomes_unlessPowerOn rfl (State.happens_ite .ticked)
  case lifetimeExpiry i => exact State.outcomes_unlessPowerOn rfl (State.happens_ite (.lifetimeEnds i))
  case leaseExpiry l => exact State.outcomes_unlessPowerOn rfl (State.happens_ite (.leasesTick l))
  case coolDownExpiry p => exact State.outcomes_unlessPowerOn rfl (State.happens_ite (.coolDownsTick p))
  case authorizationExpiry => exact State.outcomes_unlessPowerOn rfl (State.happens_ite .authorizationTicks)
  case faultScoreReport p k => exact State.outcomes_unlessPowerOn rfl (State.happens_ite (.scored p k))
  case fanOutStart =>
    refine State.outcomes_next (i := .fanOutStart) rfl ?_
    split
    · next r rest m h =>
      obtain ⟨h1, h2, h3⟩ := State.fanOutReady_eq_some h
      exact .fanOutStarts r rest m h1 h2 h3
    · exact .unchanged
  case placementEvent =>
    refine State.outcomes_next (i := .placementEvent) rfl ?_
    split
    · next f p m h =>
      obtain ⟨h1, h2, h3⟩ := State.placementReady_eq_some h
      exact .visited f p m h1 h2 h3
    · exact .unchanged
  case fanOutEnd =>
    refine State.outcomes_next (i := .fanOutEnd) rfl ?_
    split
    · next f m h =>
      obtain ⟨h1, h2, h3⟩ := State.endReady_eq_some h
      exact .fanOutEnds f m h1 h2 h3
    · exact .unchanged
  case refclkCycle =>
    refine State.outcomes_unlessPowerOn (i := .refclkCycle) rfl ?_
    split
    · next h => exact .ticked h
    · next h => exact .counted (by simpa using h)

/-- A row that goes on has one of the effects named. -/
theorem State.steps_of_exec {i : Instr} {t : State} (h : exec i s = .next t) : s.Steps t := by
  rcases s.outcomes i with ⟨u, hu, k⟩ | ⟨hf, -⟩
  · rw [hu] at h
    cases h
    exact k
  · rw [hf] at h
    cases h

end

/-! ### Posting, and keeping a property -/

/-- Posting shows the answer, reports it unless its report has been taken, and resets the device where a reset follows. -/
theorem Answer.post_eq (x : Answer) (p : Port) (c : Command) :
    x.post p c =
      let t := if x.scored then x.state.shown p c x.response x.results else x.state.posted p c x.response x.results
      if x.resets then t.deviceReset else t := by
  by_cases h : x.response.kind = .fault <;> cases hs : x.scored <;>
  simp [Answer.post, h, hs, State.posted, State.shown, Response.classOf_eq_kind, State.updWindow, State.raise, State.updEvents,
    PerPort.modify, Window.post, EventUnit.raise, bytesWord_append, State.report, State.reported, State.attached, Event.number,
    BitVec.twoPow]

/-- A property that showing, reporting and a device reset keep is kept by posting an answer. -/
theorem Answer.post_keeps {P : State → Prop} (shown : ∀ s p c r w, P s → P (s.shown p c r w))
    (posted : ∀ s p c r w, P s → P (s.posted p c r w)) (reset : ∀ s : State, P s → P s.deviceReset) {x : Answer}
    (h : P x.state) (p : Port) (c : Command) : P (x.post p c) := by
  have ht : P (if x.scored then x.state.shown p c x.response x.results else x.state.posted p c x.response x.results) := by
    split
    · exact shown _ _ _ _ _ h
    · exact posted _ _ _ _ _ h
  rw [Answer.post_eq]
  dsimp only
  split
  · exact reset _ ht
  · exact ht

/-- A property is kept by every row when it is kept by what commands make of the state, by posting, and by events and accesses. -/
theorem State.Steps.keeps {P : State → Prop} {s t : State} (h : s.Steps t)
    (takes : ∀ p a c t, s.Takes p a c t → P t) (shown : ∀ s p c r w, P s → P (s.shown p c r w))
    (posted : ∀ s p c r w, P s → P (s.posted p c r w)) (reset : ∀ s : State, P s → P s.deviceReset)
    (happens : ∀ t, s.Happens t → P t) : P t := by
  cases h with
  | command p c a _ => exact Answer.post_keeps shown posted reset (takes _ _ _ _ (s.answerTo_takes p a c)) p c
  | event _ k => exact happens _ k

/-- A step idles, or takes the row at the front of the queue. -/
theorem step_cases {s t : State} (h : step s = .next t) :
    t = s ∨ ∃ (c : Instr) (rest : List Instr), s.pending = c :: rest ∧ exec c { s with pending := rest } = .next t := by
  unfold step at h
  split at h
  · cases h
    exact .inl rfl
  · next c rest hc => exact .inr ⟨c, rest, hc, h⟩

/-- A property that does not depend on the queue and that every row keeps is kept by every step. -/
theorem step_keeps {P : State → Prop} (queue : ∀ (s : State) rest, P s → P { s with pending := rest })
    (rows : ∀ s t : State, P s → s.Steps t → P t) {s t : State} (hs : P s) (h : step s = .next t) : P t := by
  rcases step_cases h with rfl | ⟨c, rest, -, hx⟩
  · exact hs
  · exact rows _ _ (queue s rest hs) (State.steps_of_exec hx)

end Sys2Proof.Machine
end

section
/-! What the composite events leave alone; the queue, the stops, and the payload store along a step. -/

namespace Sys2Proof.Machine

/-! ### Composite events -/

/-- A property kept by each block's share of a tick is kept when the shares left of the last tick are settled. -/
theorem State.settleShares_keeps {P : State → Prop} (slot : ∀ (s : State) i, P s → P (s.takeLifetime i))
    (leases : ∀ s : State, P s → P s.takeLeases) (coolDowns : ∀ s : State, P s → P s.takeCoolDowns) {s : State} (h : P s) :
    P s.settleShares := by
  have fold : ∀ (is : List SlotId) (u : State), P u → P (is.foldl State.takeLifetime u) := by
    intro is
    induction is with
    | nil => exact fun u hu => hu
    | cons i is ih => exact fun u hu => ih _ (slot u i hu)
  have ht := fold s.due.slots s h
  unfold State.settleShares
  dsimp only
  split_ifs
  · exact ht
  · exact coolDowns _ ht
  · exact leases _ ht
  · exact coolDowns _ (leases _ ht)

/-- A property kept by the shares of a tick, by a device reset and by the delivery of a tick is kept by a base tick. -/
theorem State.baseTick_keeps {P : State → Prop} (slot : ∀ (s : State) i, P s → P (s.takeLifetime i))
    (leases : ∀ s : State, P s → P s.takeLeases) (coolDowns : ∀ s : State, P s → P s.takeCoolDowns)
    (authorization : ∀ s : State, P s → P s.takeAuthorization) (reset : ∀ s : State, P s → P s.deviceReset)
    (deliver : ∀ s : State, P s → P s.deliverTick) {s : State} (h : P s) : P s.baseTick := by
  have ht := State.settleShares_keeps slot leases coolDowns h
  unfold State.baseTick
  dsimp only
  split_ifs
  · exact reset _ ht
  · exact deliver _ (authorization _ ht)
  · exact deliver _ ht

/-- Detaching leaves what a purge leaves. -/
@[simp] theorem State.detached_frame (s : State) (p : Port) :
    (s.detached p).pending = s.pending ∧ (s.detached p).porAsserted = s.porAsserted ∧
    (s.detached p).geometry = s.geometry ∧ (s.detached p).payload = s.payload ∧
    (s.detached p).watermark = s.watermark ∧ (s.detached p).time = s.time := by
  simp [State.detached]

/-- So does a port reset. -/
@[simp] theorem State.portReset_frame (s : State) (p : Port) :
    (s.portReset p).pending = s.pending ∧ (s.portReset p).porAsserted = s.porAsserted ∧
    (s.portReset p).geometry = s.geometry ∧ (s.portReset p).payload = s.payload ∧
    (s.portReset p).watermark = s.watermark ∧ (s.portReset p).time = s.time := by
  unfold State.portReset State.portResetByState
  split <;> simp

/-- Device control's share of a tick is a change of the authorization counter or a device reset. -/
@[simp] theorem State.takeAuthorization_frame (s : State) :
    s.takeAuthorization.pending = s.pending ∧ s.takeAuthorization.porAsserted = s.porAsserted ∧
    s.takeAuthorization.geometry = s.geometry ∧ s.takeAuthorization.payload = s.payload ∧
    s.takeAuthorization.watermark = s.watermark := by
  unfold State.takeAuthorization
  dsimp only
  split_ifs <;> simp

/-- A base tick moves no geometry, no watermark and no payload byte. -/
@[simp] theorem State.baseTick_frame (s : State) :
    s.baseTick.pending = s.pending ∧ s.baseTick.porAsserted = s.porAsserted ∧ s.baseTick.geometry = s.geometry ∧
    s.baseTick.payload = s.payload ∧ s.baseTick.watermark = s.watermark :=
  State.baseTick_keeps
    (P := fun t => t.pending = s.pending ∧ t.porAsserted = s.porAsserted ∧ t.geometry = s.geometry ∧
      t.payload = s.payload ∧ t.watermark = s.watermark)
    (fun _ _ h => by simpa using h) (fun _ h => by simpa using h) (fun _ h => by simpa using h)
    (fun _ h => by simpa using h) (fun _ h => by simpa using h) (fun _ h => h) ⟨rfl, rfl, rfl, rfl, rfl⟩

@[simp] theorem State.shown_pending (s : State) (p : Port) (c : Command) (r : Response) (w : Words6) :
    (s.shown p c r w).pending = s.pending := rfl
@[simp] theorem State.posted_pending (s : State) (p : Port) (c : Command) (r : Response) (w : Words6) :
    (s.posted p c r w).pending = s.pending := rfl
@[simp] theorem State.shown_payload (s : State) (p : Port) (c : Command) (r : Response) (w : Words6) :
    (s.shown p c r w).payload = s.payload := rfl
@[simp] theorem State.posted_payload (s : State) (p : Port) (c : Command) (r : Response) (w : Words6) :
    (s.posted p c r w).payload = s.payload := rfl

/-! ### The queue and the stops -/

/-- No command touches the queue. -/
theorem State.Takes.pending {s t : State} {p : Port} {a : Words6} {c : Command} (h : s.Takes p a c t) :
    t.pending = s.pending := by
  cases h <;> simp [State.withGeometry]

/-- No event and no access touches the queue. -/
theorem State.Happens.pending {s t : State} (h : s.Happens t) : t.pending = s.pending := by
  cases h <;> simp [State.locationFaulted, State.storeWord, State.writePlain, State.powerOn]

theorem State.Steps.pending {s t : State} (h : s.Steps t) : t.pending = s.pending :=
  h.keeps (P := fun t => t.pending = s.pending) (fun _ _ _ _ k => k.pending) (fun _ _ _ _ _ k => k)
    (fun _ _ _ _ _ k => k) (fun _ k => by simpa using k) (fun _ k => k.pending)

/-- A row at which the model stops is FILL_DATA, a write at its offset, or READ_DATA. -/
theorem State.Stops.row {s : State} {i : Instr} (h : s.Stops i) :
    (∃ p w, i = .fillData p w) ∨ (∃ p w, i = .registerWrite p 0x20 w) ∨ ∃ p, i = .readData p := by
  cases h with
  | fill p j w _ named _ _ _ => exact named.imp (fun e => ⟨p, w, e⟩) fun e => .inl ⟨p, w, e⟩
  | read p _ _ _ _ => exact .inr (.inr ⟨p, rfl⟩)

/-- Settles O2: what a row leaves is one of the steps listed in `State.Steps`, and `State.outcomes` leaves no refusal. -/
theorem commandsLeaveTheQueueAndAreNeverRefused : Obligations.CommandsLeaveTheQueueAndAreNeverRefused := by
  intro i s
  refine ⟨fun t h => (State.steps_of_exec h).pending, fun r => ?_, fun e => ?_⟩
  · rcases s.outcomes i with ⟨t, h, -⟩ | ⟨h, -⟩ <;> simp [h]
  · rcases s.outcomes i with ⟨t, h, -⟩ | ⟨h, k⟩
    · simp [h]
    · exact fun _ => k.row

/-! ### The payload store -/

/-- The canonical form depends on the payload store alone. -/
theorem State.PayloadCanonical.congr {s t : State} (h : s.PayloadCanonical) (e : t.payload = s.payload) :
    t.PayloadCanonical := ⟨e ▸ h.canonical, e ▸ h.bounded⟩

/-- An empty store is canonical. -/
theorem State.payloadCanonical_of_nil {s : State} (e : s.payload = []) : s.PayloadCanonical :=
  ⟨e ▸ Memory.wf_nil, fun c hc => by simp [e] at hc⟩

/-- Clearing bytes keeps the form. -/
theorem State.PayloadCanonical.clear {s t : State} {base len : Nat} (h : s.PayloadCanonical)
    (e : t.payload = Memory.clear s.payload base len) : t.PayloadCanonical :=
  ⟨e ▸ Memory.wf_clear base len h.canonical, fun c hc => h.bounded c (Memory.mem_clear (e ▸ hc))⟩

/-- Writing a byte below 8192 keeps the form. -/
theorem Memory.bounded_write {m : Memory} {a : Nat} {v : Byte} (h : ∀ c ∈ m, c.1 < 8192) (ha : a < 8192) :
    ∀ c ∈ Memory.write m a v, c.1 < 8192 := by
  intro c hc
  rcases Memory.mem_write hc with hc | ⟨rfl, -⟩
  · exact h c hc
  · exact ha

/-- Storing a word at an address whose next one is in the store keeps the form. -/
theorem State.PayloadCanonical.storeWord {s : State} (h : s.PayloadCanonical) {i : SlotId} {k : Nat} (w : Word)
    (inside : s.slotBase i + k + 1 < Config.storeSize) : (s.storeWord i k w).PayloadCanonical := by
  have inside' : s.slotBase i + k + 1 < 8192 := inside
  exact ⟨Memory.wf_write _ _ (Memory.wf_write _ _ h.canonical),
    Memory.bounded_write (Memory.bounded_write h.bounded (by omega)) inside'⟩

/-- RESERVE clears bytes, SET_GEOMETRY empties the store, and no other command touches it. -/
theorem State.Takes.payloadCanonical {s t : State} {p : Port} {a : Words6} {c : Command} (k : s.Takes p a c t)
    (h : s.PayloadCanonical) : t.PayloadCanonical := by
  cases k
  case reserve ch i rest _ _ _ _ _ _ =>
    exact h.clear (base := s.slotBase i) (len := s.geometry.slotSize) (by simp [State.reserveSlot])
  case setGeometry => exact State.payloadCanonical_of_nil rfl
  all_goals exact h.congr (by simp)

/-- FILL_DATA writes two bytes, power-on empties the store, and no other event or access touches it. -/
theorem State.Happens.payloadCanonical {s t : State} (k : s.Happens t) (h : s.PayloadCanonical) : t.PayloadCanonical := by
  cases k
  case filled p i w _ _ inside => exact (h.storeWord w inside).congr rfl
  case powerOn => exact State.payloadCanonical_of_nil rfl
  all_goals exact h.congr (by simp [State.locationFaulted, State.writePlain])

/-- Settles O53: `step_keeps`; what writes the store (a fill, a clearing, a rebuilt pool, power-on) leaves it canonical. -/
theorem everyStepKeepsThePayloadCanonical : Obligations.EveryStepKeepsThePayloadCanonical := by
  intro s t hs h
  refine step_keeps (P := State.PayloadCanonical) (fun _ _ k => k.congr rfl) (fun u v hu k => ?_) hs h
  exact k.keeps (fun _ _ _ _ x => x.payloadCanonical hu) (fun _ _ _ _ _ x => x.congr rfl) (fun _ _ _ _ _ x => x.congr rfl)
    (fun _ x => x.congr (by simp)) (fun _ x => x.payloadCanonical hu)

end Sys2Proof.Machine
end

section
/-! The slot pool's commands, releases and resets, each against its statement. -/

namespace Sys2Proof.Machine

/-! ### The geometry and the free list (R1, R7) -/

theorem Geometry.slotCount_le (g : Geometry) : g.slotCount ≤ 256 := by cases g <;> decide

theorem Geometry.slotCount_mul_slotSize (g : Geometry) : g.slotCount * g.slotSize = 8192 := by cases g <;> rfl

/-- The numbers of the free list that resets and SET_GEOMETRY build. -/
theorem map_val_slotsBelow {n : Nat} (h : n ≤ 256) : (slotsBelow n).map (fun i => i.val) = List.range n := by
  have split : List.range 256 = List.range n ++ (List.range (256 - n)).map (n + ·) := by
    rw [← List.range_add, Nat.add_sub_cancel' h]
  have upper : ((List.range (256 - n)).map (n + ·)).filter (fun k => decide (k < n)) = [] := by
    simp [List.filter_eq_nil_iff]
  have lower : (List.range n).filter (fun k => decide (k < n)) = List.range n := by
    simp [List.filter_eq_self]
  calc (slotsBelow n).map (fun i => i.val)
      = ((indices 256).map fun i => i.val).filter fun k => decide (k < n) := by
        simp only [slotsBelow, List.filter_map]
        rfl
    _ = List.range n := by rw [map_val_indices, split, List.filter_append, upper, lower, List.append_nil]

theorem mem_slotsBelow {n : Nat} {i : SlotId} : i ∈ slotsBelow n ↔ i.val < n := by simp [slotsBelow]

theorem nodup_slotsBelow (n : Nat) : (slotsBelow n).Nodup := (nodup_indices 256).filter _

/-! ### Resets (R19, R20) -/

/-- Settles O3: every record is read off the power-on state. -/
theorem powerOnResetSetsTheSlotPool : Obligations.PowerOnResetSetsTheSlotPool := by
  intro s
  refine ⟨s.powerOn, rfl, rfl, rfl, rfl, fun i => Table.get_replicate _ i, map_val_slotsBelow (n := 128) (by decide), fun _ => rfl, rfl,
    fun p => ⟨?_, PerPort.get_all _ p, ?_⟩⟩
  · exact congrArg PortRecord.account (PerPort.get_all _ p)
  · exact congrArg Window.fillPointer (PerPort.get_all _ p)

/-- A channel after a device reset, as the rules put it (R43, R95). -/
theorem Channel.deviceReset_eq (c : Channel) :
    c.deviceReset.seq = c.seq ∧ c.deviceReset.frozen = c.frozen ∧
      c.deviceReset.defn =
        match c.defn with
        | none => none
        | some d =>
          if d.phase = .closing then none
          else some { d with
            current := none
            subs := d.subs.map fun b => b.map fun b => { b with lost := 0, expired := 0, superseded := 0, new := false } } := by
  refine ⟨rfl, rfl, ?_⟩
  unfold Channel.deviceReset
  cases c.defn <;> rfl

/-- A window after a device reset (R151, R150, R135, R123, R20). -/
theorem Window.deviceReset_eq (w : Window) :
    w.deviceReset =
      { w with
        issued := none
        response := if w.issued.isSome then 0x1E else w.response
        results := if w.issued.isSome then {} else w.results
        counter := 0, lastFault := 0, cause := .deviceReset, capture := 0, fillPointer := 0 } := by
  unfold Window.deviceReset Window.discard
  split <;> simp [*, Response.code]

/-- Settles O6: block by block; a channel's record by `Channel.deviceReset_eq`. -/
theorem deviceResetKeepsConfigurationOnly : Obligations.DeviceResetKeepsConfigurationOnly := by
  intro s
  refine ⟨⟨rfl, rfl, fun i => Table.get_replicate _ i, map_val_slotsBelow s.geometry.slotCount_le, fun p => ⟨?_, ?_, ?_⟩⟩,
    fun ch => ?_, fun l => Table.get_map _ _ l, fun p => PerPort.get_all _ p, rfl, rfl, fun p => PerPort.get_all _ p,
    fun p => ⟨PerPort.get_all _ p, PerPort.get_all _ p⟩, rfl, fun p => PerPort.get_all _ p, fun p => PerPort.get_all _ p,
    fun p => ?_, rfl⟩
  · exact congrArg PortRecord.account (PerPort.get_all _ p)
  · exact PerPort.get_all _ p
  · exact congrArg Window.fillPointer (PerPort.get_map _ _ p)
  · have e : s.deviceReset.channels.get ch = (s.channels.get ch).deviceReset := Table.get_map _ _ ch
    rw [e]
    exact Channel.deviceReset_eq _
  · exact (PerPort.get_map _ _ p).trans (Window.deviceReset_eq _)

/-! ### Releases (R5) -/

/-- Settles O20: the two branches of `State.release`, with `PerPort.credit` written as a record update. -/
theorem lastReleaseFreesTheSlot : Obligations.LastReleaseFreesTheSlot := by
  refine fun s i => ⟨fun h => ?_, fun h => ?_⟩
  · have e : PerPort.credit s.ports (s.slots.get i).use.account? =
        match (s.slots.get i).use with
        | .free => s.ports
        | .filling _ q => s.ports.set q { s.ports.get q with account := (s.ports.get q).account - 1 }
        | .message m =>
          s.ports.set m.account { s.ports.get m.account with account := (s.ports.get m.account).account - 1 } := by
      cases (s.slots.get i).use <;> rfl
    rw [State.release, if_pos h, State.freeSlot, e]
    rfl
  · rw [State.release, if_neg h]
    rfl

/-! ### The checks of the commands of the slot pool and of PUBLISH and COLLECT (R8, R45) -/

/-- The order of checks decides a command's answer: where a condition of its table holds, the block answers that and changes
nothing. -/
theorem exec_of_judge {s : State} {p : Port} {a : Words6} {c : Command} {r : Response} {w : Words6} (h : s.issues p c a)
    (e : s.answerTo p a c = s.answer r w) : exec (c.row p) s = .next (s.posted p c r w) := by
  rw [exec_row, State.takeCommand_of_issues _ h, e, State.answer_post]

/-- The port's own checks. -/
theorem State.judge_portChecks (s : State) (p : Port) : judge (s.portChecks p) = (s.absence p).map fun r => (r, {}) := by
  simp only [State.portChecks, judge_cons, judge_nil, State.absence]
  cases (s.ports.get p).state <;> rfl

theorem State.judge_runChecks (s : State) (p : Port) : judge (s.runChecks p) = (s.trafficCheck p).map fun r => (r, {}) := by
  rw [State.runChecks, judge_cons, State.judge_portChecks, State.trafficCheck]
  cases s.device.state <;> rfl

theorem State.judge_settingChecks (s : State) (p : Port) :
    judge (s.settingChecks p) = (s.settingCheck p).map fun r => (r, {}) := by
  rw [State.settingChecks, judge_cons, State.judge_portChecks, State.settingCheck]
  cases s.device.state <;> rfl

/-- RESTRICTED, where the port is ATTACHED. -/
theorem State.restricted_of_attached {s : State} {p : Port} (h : (s.ports.get p).state = .attached) :
    s.restricted p = decide (128 ≤ (s.ports.get p).score) := by
  rw [State.restricted_eq, h]
  rfl

/-- Either the first line of a table decides, or the rest of it does. -/
theorem judge_cons_some {b : Bool} {r r' : Response} {w w' : Words6} {l : List (Bool × Response × Words6)}
    (h : judge (on b r' w' :: l) = some (r, w)) : (b = true ∧ r' = r ∧ w' = w) ∨ (b = false ∧ judge l = some (r, w)) := by
  rw [judge_cons] at h
  cases b <;> simp_all

theorem judge_nil_ne_some {x : Response × Words6} : judge [] ≠ some x := by simp

theorem judge_append_some {x y : List (Bool × Response × Words6)} {z : Response × Words6} (h : judge (x ++ y) = some z) :
    judge x = some z ∨ (judge x = none ∧ judge y = some z) := by
  rw [judge_append] at h
  cases e : judge x <;> simp_all

section
variable {s : State} {p : Port} {a : Words6} {r : Response} {w : Words6}

/-- The checks of the device state and the port decide, or let RUN traffic of an ATTACHED port on to the rest. -/
theorem State.judge_runChecks_append {l : List (Bool × Response × Words6)} (h : judge (s.runChecks p ++ l) = some (r, w)) :
    (s.trafficCheck p = some r ∧ {} = w) ∨
      (s.trafficCheck p = none ∧ (s.ports.get p).state = .attached ∧ judge l = some (r, w)) := by
  rcases judge_append_some h with h | ⟨h, k⟩
  · rw [State.judge_runChecks] at h
    obtain ⟨r', e, h⟩ := Option.map_eq_some_iff.1 h
    cases h
    exact .inl ⟨e, rfl⟩
  · have ht := (State.trafficCheck_of_runChecks h).1
    exact .inr ⟨ht, (State.trafficCheck_eq_none.1 ht).2, k⟩

theorem State.judge_settingChecks_append {l : List (Bool × Response × Words6)}
    (h : judge (s.settingChecks p ++ l) = some (r, w)) :
    (s.settingCheck p = some r ∧ {} = w) ∨ (s.settingCheck p = none ∧ judge l = some (r, w)) := by
  rcases judge_append_some h with h | ⟨h, k⟩
  · rw [State.judge_settingChecks] at h
    obtain ⟨r', e, h⟩ := Option.map_eq_some_iff.1 h
    cases h
    exact .inl ⟨e, rfl⟩
  · exact .inr ⟨(State.settingCheck_of_settingChecks h).1, k⟩

theorem State.judge_portChecks_append {l : List (Bool × Response × Words6)}
    (h : judge (s.portChecks p ++ l) = some (r, w)) :
    (s.absence p = some r ∧ {} = w) ∨ (s.absence p = none ∧ judge l = some (r, w)) := by
  rcases judge_append_some h with h | ⟨h, k⟩
  · rw [State.judge_portChecks] at h
    obtain ⟨r', e, h⟩ := Option.map_eq_some_iff.1 h
    cases h
    exact .inl ⟨e, rfl⟩
  · exact .inr ⟨State.absence_of_attached (State.attached_of_portChecks h), k⟩

/-- R8, R17: the table of RESERVE. -/
theorem State.reserveAnswer_of_judge (h : judge (s.poolChecks .reserve p a) = some (r, w)) :
    s.reserveAnswer p a = s.answer r w := by
  unfold State.reserveAnswer
  rcases State.judge_runChecks_append h with ⟨ht, rfl⟩ | ⟨ht, att, h⟩
  · simp only [ht]
  simp only [ht, State.restricted_of_attached att]
  rcases judge_cons_some h with ⟨h1, rfl, rfl⟩ | ⟨h1, h⟩
  · simp only [h1, if_true]
  rcases judge_cons_some h with ⟨h2, rfl, rfl⟩ | ⟨h2, h⟩
  · simp [h1, h2]
  rcases judge_cons_some h with ⟨h3, rfl, rfl⟩ | ⟨h3, h⟩
  · simp [h1, h2, channel?_none.2 (by simpa using h3)]
  obtain ⟨ch, hc⟩ : ∃ ch, channel? a.w0.toNat = some ch := by
    rw [← Option.isSome_iff_exists, Option.isSome_iff_ne_none, Ne, channel?_none]
    simpa using h3
  rw [val_of_channel? hc, State.mayPublishOn, State.channelAt_val] at h
  simp only [h1, h2, hc]
  rcases judge_cons_some h with ⟨h4, rfl, rfl⟩ | ⟨h4, h⟩
  · simp [Option.isNone_iff_eq_none.1 h4]
  obtain ⟨d, hd⟩ : ∃ d, s.defn? ch = some d := by simpa [Option.isSome_iff_exists] using h4
  simp only [hd, Option.any_some] at h ⊢
  rcases judge_cons_some h with ⟨h5, rfl, rfl⟩ | ⟨h5, h⟩
  · simp [h5]
  rcases judge_cons_some h with ⟨h6, rfl, rfl⟩ | ⟨h6, h⟩
  · simp [h5, of_decide_eq_true h6]
  rcases judge_cons_some h with ⟨h7, rfl, rfl⟩ | ⟨-, h⟩
  · simp [h5, of_decide_eq_false h6, of_decide_eq_true h7]
  · exact absurd h judge_nil_ne_some

/-- R14: the table of ABANDON. -/
theorem State.abandonAnswer_of_judge (h : judge (s.poolChecks .abandon p a) = some (r, w)) :
    s.abandonAnswer p a = s.answer r w := by
  unfold State.abandonAnswer
  rcases State.judge_portChecks_append h with ⟨ha, rfl⟩ | ⟨ha, h⟩
  · simp only [ha]
  rcases judge_cons_some h with ⟨h1, rfl, rfl⟩ | ⟨-, h⟩
  · simp [ha, Option.isNone_iff_eq_none.1 h1]
  · exact absurd h judge_nil_ne_some

/-- R2: the table of SET_GEOMETRY. -/
theorem State.setGeometryAnswer_of_judge (h : judge (s.poolChecks .setGeometry p a) = some (r, w)) :
    s.setGeometryAnswer p a = s.answer r w := by
  unfold State.setGeometryAnswer
  rcases State.judge_settingChecks_append h with ⟨ha, rfl⟩ | ⟨ha, h⟩
  · simp only [ha]
  rcases judge_cons_some h with ⟨h1, rfl, rfl⟩ | ⟨-, h⟩
  · simp only [ha, geometry?_none.2 (of_decide_eq_true h1)]
  · exact absurd h judge_nil_ne_some

/-- R18: the table of SET_WATERMARK. -/
theorem State.setWatermarkAnswer_of_judge (h : judge (s.poolChecks .setWatermark p a) = some (r, w)) :
    s.setWatermarkAnswer p a = s.answer r w := by
  unfold State.setWatermarkAnswer
  rcases State.judge_settingChecks_append h with ⟨ha, rfl⟩ | ⟨ha, h⟩
  · simp only [ha]
  rcases judge_cons_some h with ⟨h1, rfl, rfl⟩ | ⟨-, h⟩
  · simp only [ha, if_pos (of_decide_eq_true h1)]
  · exact absurd h judge_nil_ne_some

/-- The channel of a port's reservation is that of its FILLING slot (R10). -/
theorem State.reservation?_eq (s : State) (p : Port) :
    (s.reservedChannel p = none ∧ s.reservation? p = none) ∨
      ∃ i ch q, s.reservedChannel p = some ch ∧ s.reservation? p = some (i, ch, q) := by
  unfold State.reservedChannel State.reservation?
  cases s.reservations.get p with
  | none => exact .inl ⟨rfl, rfl⟩
  | some i =>
    simp only [Option.bind_some]
    cases (s.slots.get i).use with
    | free => exact .inl ⟨rfl, rfl⟩
    | filling ch q => exact .inr ⟨i, ch, q, rfl, rfl⟩
    | message m => exact .inl ⟨rfl, rfl⟩

/-- Orders 5 to 10 of R45, for a reservation on a channel defined as `d`. -/
theorem State.publishCheck_of_judge {d : ChannelDef}
    (h : judge
      [on (d.phase = .closing) .closed, on (d.phase = .suspended) .suspended,
       on (!d.publishers.getLsbD p.index) .notPublisher,
       on (a.w0 = 0 ∨ s.geometry.slotSize < a.w0.toNat) .length,
       on ((s.ports.get p).credits = 0) .busy { w0 := 1 },
       on (8 ≤ s.publishQueue.length) .busy { w0 := 2 }] = some (r, w)) :
    s.publishCheck p d a = some (r, w.w0) ∧ w = { w0 := w.w0 } := by
  unfold State.publishCheck
  rcases judge_cons_some h with ⟨h1, rfl, rfl⟩ | ⟨h1, h⟩
  · exact ⟨if_pos (of_decide_eq_true h1), rfl⟩
  rw [if_neg (of_decide_eq_false h1)]
  rcases judge_cons_some h with ⟨h2, rfl, rfl⟩ | ⟨h2, h⟩
  · exact ⟨if_pos (of_decide_eq_true h2), rfl⟩
  rw [if_neg (of_decide_eq_false h2)]
  rcases judge_cons_some h with ⟨h3, rfl, rfl⟩ | ⟨h3, h⟩
  · exact ⟨if_pos h3, rfl⟩
  rw [if_neg (Bool.not_eq_true _ ▸ h3)]
  rcases judge_cons_some h with ⟨h4, rfl, rfl⟩ | ⟨h4, h⟩
  · exact ⟨if_pos (of_decide_eq_true h4), rfl⟩
  rw [if_neg (of_decide_eq_false h4)]
  rcases judge_cons_some h with ⟨h5, rfl, rfl⟩ | ⟨h5, h⟩
  · exact ⟨if_pos (of_decide_eq_true h5), rfl⟩
  rw [if_neg (of_decide_eq_false h5)]
  rcases judge_cons_some h with ⟨h6, rfl, rfl⟩ | ⟨-, h⟩
  · exact ⟨if_pos (of_decide_eq_true h6), rfl⟩
  · exact absurd h judge_nil_ne_some

/-- R45: the table of PUBLISH. -/
theorem State.publishAnswer_of_judge (h : judge (s.publishChecks .publish p a) = some (r, w)) :
    s.publishAnswer p a = s.answer r w := by
  unfold State.publishAnswer
  rcases State.judge_runChecks_append h with ⟨ht, rfl⟩ | ⟨ht, att, h⟩
  · simp only [ht]
  simp only [ht, State.restricted_of_attached att]
  rcases judge_cons_some h with ⟨h1, rfl, rfl⟩ | ⟨h1, h⟩
  · simp only [h1, if_true]
  simp only [h1]
  rcases State.reservation?_eq s p with ⟨hn, hr⟩ | ⟨i, ch, q, hn, hr⟩
  · rcases judge_cons_some h with ⟨-, rfl, rfl⟩ | ⟨h2, -⟩
    · simp [hr]
    · simp [hn] at h2
  simp only [hn, hr, Option.bind_some] at h ⊢
  rcases judge_cons_some h with ⟨h2, -, -⟩ | ⟨-, h⟩
  · cases h2
  cases hd : (s.channels.get ch).defn with
  | none =>
    have hd' : s.defn? ch = none := hd
    rcases judge_cons_some h with ⟨-, rfl, rfl⟩ | ⟨h3, -⟩
    · simp [hd']
    · simp [hd] at h3
  | some d =>
    have hd' : s.defn? ch = some d := hd
    simp only [hd, hd', Option.any_some, Option.isNone_some, Bool.false_eq_true, false_or, Bool.decide_eq_true] at h ⊢
    obtain ⟨hc, hw⟩ := State.publishCheck_of_judge h
    rw [hw]
    simp [hc]

/-- R60: the table of COLLECT. -/
theorem State.collectAnswer_of_judge (h : judge (s.publishChecks .collect p a) = some (r, w)) :
    s.collectAnswer p a = s.answer r w := by
  unfold State.collectAnswer
  rcases State.judge_runChecks_append h with ⟨ht, rfl⟩ | ⟨ht, -, h⟩
  · simp only [ht]
  rcases judge_cons_some h with ⟨h1, rfl, rfl⟩ | ⟨-, h⟩
  · simp only [ht, of_decide_eq_true h1]
  · exact absurd h judge_nil_ne_some

end

/-- Settles O7: each answer agrees with the first condition of its list that holds (the `…_of_judge` lemmas). -/
theorem poolAndPublishChecksInOrder : Obligations.PoolAndPublishChecksInOrder := by
  intro s p a r w
  refine ⟨fun c hc hi hj => ?_, fun c hc hi hj => ?_⟩
  · simp only [List.mem_cons, List.not_mem_nil, or_false] at hc
    rcases hc with rfl | rfl | rfl | rfl
    · exact exec_of_judge hi (State.reserveAnswer_of_judge hj)
    · exact exec_of_judge hi (State.abandonAnswer_of_judge hj)
    · exact exec_of_judge hi (State.setGeometryAnswer_of_judge hj)
    · exact exec_of_judge hi (State.setWatermarkAnswer_of_judge hj)
  · simp only [List.mem_cons, List.not_mem_nil, or_false] at hc
    rcases hc with rfl | rfl
    · exact exec_of_judge hi (State.publishAnswer_of_judge hj)
    · exact exec_of_judge hi (State.collectAnswer_of_judge hj)

end Sys2Proof.Machine
end

section
/-! The accepted commands of the slot pool and the fill locations, each against its statement. -/

namespace Sys2Proof.Machine

/-- An accepted command posts the answer of its block. -/
theorem exec_of_answer {s t : State} {p : Port} {a : Words6} {c : Command} {r : Response} {w : Words6} (h : s.issues p c a)
    (e : s.answerTo p a c = t.answer r w) : exec (c.row p) s = .next (t.posted p c r w) := by
  rw [exec_row, State.takeCommand_of_issues _ h, e, State.answer_post]

/-! ### SET_GEOMETRY (R2) -/

/-- The geometry of a slot size named in ARG0. -/
theorem geometry?_of_slotSize {w : Word} {g : Geometry} (h : g.slotSize = w.toNat) : geometry? w = some g := by
  have e : w = BitVec.ofNat 16 g.slotSize := BitVec.eq_of_toNat_eq (by rw [← h]; cases g <;> rfl)
  rw [e]
  cases g <;> rfl

/-- Settles O16: no check refuses, so the answer is the rebuilt pool. -/
theorem setGeometryRebuildsThePool : Obligations.SetGeometryRebuildsThePool := by
  intro s p a g hi hj hg
  have check := (State.settingCheck_of_settingChecks (judge_append_none hj).1).1
  have size : toWord g.slotSize = a.w0 := by
    rw [hg]
    exact BitVec.eq_of_toNat_eq (by simp [toWord])
  refine ⟨s.withGeometry g, ?_, g.slotCount_mul_slotSize, fun i => Table.get_replicate _ i,
    map_val_slotsBelow g.slotCount_le, fun _ => rfl, rfl⟩
  refine exec_of_answer (c := .setGeometry) hi ?_
  show s.setGeometryAnswer p a = _
  simp only [State.setGeometryAnswer, check, geometry?_of_slotSize hg, size]
  rfl

/-! ### RESERVE (R9, R17) -/

/-- The checks of RESERVE pass: the reservation of R9 is answered. -/
theorem State.reserveAnswer_of_none {s : State} {p : Port} {a : Words6} {ch : ChannelId} {i : SlotId} {rest : List SlotId}
    (h : judge (s.poolChecks .reserve p a) = none) (hch : a.w0.toNat = ch.val) (head : s.freeList = i :: rest) :
    s.reserveAnswer p a = ((s.reserveSlot p ch i rest).warnPool (rest.length + 1) rest.length).answer .ok
      { w0 := toWord i.val, w1 := toWord s.geometry.slotSize, w2 := toWord rest.length } := by
  obtain ⟨hrun, h⟩ := judge_append_none h
  obtain ⟨traffic, -, att⟩ := State.trafficCheck_of_runChecks hrun
  obtain ⟨h1, h⟩ := judge_cons_none h
  obtain ⟨h2, h⟩ := judge_cons_none h
  obtain ⟨-, h⟩ := judge_cons_none h
  obtain ⟨h4, h⟩ := judge_cons_none h
  obtain ⟨h5, h⟩ := judge_cons_none h
  obtain ⟨h6, -⟩ := judge_cons_none h
  rw [hch, State.channelAt_val] at h4
  obtain ⟨d, hd⟩ : ∃ d, s.defn? ch = some d := by simpa [Option.isSome_iff_exists] using h4
  simp only [hch, State.mayPublishOn, State.channelAt_val, hd, Option.any_some] at h5
  simp [State.reserveAnswer, traffic, State.restricted_of_attached att, h1, h2, channel?_of_val hch, hd, h5,
    of_decide_eq_false h6, head]

/-- Settles O19: no check refuses, and the free list has a head. -/
theorem reserveTakesTheHeadOfTheFreeList : Obligations.ReserveTakesTheHeadOfTheFreeList := by
  intro s p a ch i rest hi hj hch head
  have attached : (s.reserveSlot p ch i rest).attached = s.attached := by
    funext q
    simp only [State.attached, State.reserveSlot, State.updWindow_ports, State.setReservation_ports, State.updPort_ports,
      PerPort.get_modify]
    split
    · next e => rw [e]
    · rfl
  refine ⟨(s.reserveSlot p ch i rest).warnPool (rest.length + 1) rest.length, ?_, fun x => ?_, ?_⟩
  · exact exec_of_answer (c := .reserve) hi (State.reserveAnswer_of_none hj hch head)
  · rw [show ((s.reserveSlot p ch i rest).warnPool (rest.length + 1) rest.length).payload =
      Memory.clear s.payload (s.slotBase i) s.geometry.slotSize by simp [State.reserveSlot]]
    exact Memory.read_clear _ _ _ x
  · have payload : ((s.reserveSlot p ch i rest).warnPool (rest.length + 1) rest.length).payload =
        (s.reserveSlot p ch i rest).payload := by simp
    rw [payload]
    unfold State.warnPool State.attachedPorts
    rw [attached]
    rfl

/-! ### FILL_DATA and FILL_POINTER (R11, R12) -/

/-- An even pointer below the slot size and its next byte stay in a slot of the geometry (R1). -/
theorem Geometry.word_inside (g : Geometry) {i k : Nat} (hi : i < g.slotCount) (hk : k < g.slotSize) (even : k % 2 = 0) :
    i * g.slotSize + k + 1 < Config.storeSize := by
  cases g <;> simp only [Geometry.slotCount, Geometry.slotSize, Config.storeSize] at * <;> omega

/-- What FILL_DATA stores: the word's low half, its high half at the next byte, and every other byte as it was (R11). -/
theorem State.read_storeWord {s : State} (h : s.PayloadCanonical) (i : SlotId) (k : Nat) (w : Word) (x : Nat) :
    Memory.read (s.storeWord i k w).payload x =
      if x = i.val * s.geometry.slotSize + k then w.extractLsb' 0 8
      else if x = i.val * s.geometry.slotSize + k + 1 then w.extractLsb' 8 8
      else Memory.read s.payload x := by
  rw [State.storeWord, Memory.read_write _ _ _ (Memory.wf_write _ _ h.canonical), Memory.read_write _ _ _ h.canonical]
  unfold State.slotBase
  split_ifs with h1 h2
  · omega
  · rfl
  · rfl
  · rfl

/-- Settles O21: by the port's state, its reservation and the pointer's place in the slot. -/
theorem fillLocationsWriteTheReservedSlot : Obligations.FillLocationsWriteTheReservedSlot := by
  intro s p w released
  have data : exec (.fillData p w) s = s.fillData p w := rfl
  have pointer : exec (.fillPointer p w) s = .next (s.fillPointer p w) := by
    show s.unlessPowerOn (s.fillPointer p w) = _
    simp [State.unlessPowerOn, released]
  refine ⟨fun absent => ?_, fun att none => ?_, fun i att reserved => ⟨fun atEnd => ?_, fun below even inForce canonical => ?_, ?_⟩⟩
  · simp [data, pointer, State.fillData, State.fillPointer, absent]
  · rw [data, pointer, ← State.locationFault_eq, ← State.locationFault_eq]
    simp [State.fillData, State.fillPointer, released, att, none]
  · rw [data, ← State.locationFault_eq]
    simp [State.fillData, released, att, reserved, Nat.not_lt.2 atEnd]
  · refine ⟨(s.storeWord i (s.windows.get p).fillPointer w).updWindow p
      fun x => { x with fillPointer := (s.windows.get p).fillPointer + 2 }, ?_, State.read_storeWord canonical i _ w, rfl⟩
    have inside : s.slotBase i + (s.windows.get p).fillPointer + 1 < Config.storeSize :=
      s.geometry.word_inside inForce below even
    rw [data]
    simp only [State.fillData, released, att, reserved, below, inside, Bool.not_true, Bool.or_false, Bool.false_eq_true,
      if_true, if_false]
  · have two : 2 ≤ s.geometry.slotSize := by cases s.geometry <;> decide
    have range : s.pointerInRange w = decide (w.toNat % 2 = 0 ∧ w.toNat ≤ s.geometry.slotSize - 2) := by
      rw [State.pointerInRange, ← Bool.decide_and]
      congr 1
      exact propext (and_congr_right fun _ => by omega)
    rw [pointer, ← State.locationFault_eq]
    simp only [State.fillPointer, att, reserved, range, decide_eq_true_eq, Bool.not_true, Bool.false_eq_true, if_false]
    rfl

/-! ### ABANDON, DISCARD and DONE (R14, R74, R75) -/

/-- The checks of a selection pass: the oldest entry that ARG0 selects is the one judged (R72, R74). -/
theorem State.entryJudge_of_find {s : State} {p : Port} {w : Word} {e : Entry}
    (inRange : (decide (w ≠ 0xFFFF) && decide (31 < w.toNat)) = false)
    (defined : (decide (w ≠ 0xFFFF) && (s.channelAt w.toNat).isNone) = false)
    (subscribed : (decide (w ≠ 0xFFFF) && (s.subAt w.toNat p.index).isNone) = false)
    (found : (s.queues.get p).find? (selects w) = some e) :
    ∃ x, selects w = x.matches ∧ s.entryJudge p w = .ok (x, e) := by
  by_cases any : w = 0xFFFF
  · have hx : selector? w = some .any := if_pos any
    have hs := selects_of_selector? hx
    refine ⟨.any, hs, ?_⟩
    rw [hs] at found
    simp only [State.entryJudge, hx, State.selectorCheck, found]
  · simp only [any, ne_eq, not_false_eq_true, decide_true, Bool.true_and] at inRange defined subscribed
    obtain ⟨ch, hc⟩ : ∃ ch, channel? w.toNat = some ch := by
      rw [← Option.isSome_iff_exists, Option.isSome_iff_ne_none, Ne, channel?_none]
      simpa using inRange
    have hx : selector? w = some (.channel ch) := by
      rw [selector?, anyWord, if_neg any, hc]
      rfl
    have hs := selects_of_selector? hx
    rw [val_of_channel? hc, State.channelAt_val] at defined
    rw [val_of_channel? hc, State.subAt_val] at subscribed
    obtain ⟨d, hd⟩ : ∃ d, s.defn? ch = some d := by simpa [Option.isSome_iff_exists] using defined
    have hsub : (d.subs.get p).isNone = false := by simpa [State.sub?, hd] using subscribed
    refine ⟨.channel ch, hs, ?_⟩
    rw [hs] at found
    simp [State.entryJudge, hx, State.selectorCheck, hd, hsub, found]

/-- Settles O29: no check refuses, so each answer releases what its record names. -/
theorem abandonDiscardAndDoneReleaseTheReference : Obligations.AbandonDiscardAndDoneReleaseTheReference := by
  intro s p a
  refine ⟨fun i hi hj reserved => ?_, fun e hi hj found => ?_, fun h hi hj held => ?_⟩
  · have att := State.attached_of_portChecks (judge_append_none hj).1
    refine exec_of_answer (c := .abandon) hi ?_
    show s.abandonAnswer p a = _
    simp only [State.abandonAnswer, State.absence_of_attached att, reserved]
    rfl
  · obtain ⟨hrun, hsel⟩ := judge_append_none hj
    obtain ⟨traffic, -, -⟩ := State.trafficCheck_of_runChecks hrun
    obtain ⟨h1, hsel⟩ := judge_cons_none hsel
    obtain ⟨h2, hsel⟩ := judge_cons_none hsel
    obtain ⟨h3, -⟩ := judge_cons_none hsel
    obtain ⟨x, hx, judged⟩ := State.entryJudge_of_find h1 h2 h3 found
    refine exec_of_answer (c := .discard) hi ?_
    show s.discardAnswer p a = _
    simp only [State.discardAnswer, traffic, judged, hx, State.remaining, State.release_frame]
    rw [show (s.pullOldest p x.matches).queues.get p = (s.queues.get p).eraseP x.matches from PerPort.get_set_same _ _ _]
    rfl
  · obtain ⟨hrun, -⟩ := judge_append_none hj
    obtain ⟨traffic, -, -⟩ := State.trafficCheck_of_runChecks hrun
    have source : toWord h.source.code = if h.source = .stream then 0 else 1 := by cases h.source <;> rfl
    refine exec_of_answer (c := .done) hi ?_
    show s.doneAnswer p a = _
    simp only [State.doneAnswer, traffic, held, State.emptyHold, source]
    rfl

end Sys2Proof.Machine
end

section
/-! What a step does to the slot pool, in small moves. Two invariants, the geometry's and the pool's, speak of slots, of those who
hold them, of accounts and pointers: the traffic of the part. Every operation either leaves the traffic alone or is a chain of
moves: a holder gives up a slot, whose reference is owed until it is released; a holder takes up a slot; a slot's record changes. -/

namespace Sys2Proof.Machine

/-! ### Traffic -/

/-- The current value of a channel, none while it is UNUSED (R84). -/
def State.current? (s : State) (ch : ChannelId) : Option SlotId := (s.channels.get ch).defn.bind fun d => d.current

/-- What the invariants of the geometry and of the pool speak of. -/
structure Traffic where
  geometry : Geometry
  slots : Table Slot 256
  freeList : List SlotId
  reservations : PerPort (Option SlotId)
  publishQueue : List Request
  engine : Option FanOut
  queues : PerPort (List Entry)
  holds : PerPort (Option Hold)
  current : ChannelId → Option SlotId
  fillPointer : Port → Nat
  account : Port → Nat
  device : DeviceState

/-- The traffic of a state. -/
def State.traffic (s : State) : Traffic where
  geometry := s.geometry
  slots := s.slots
  freeList := s.freeList
  reservations := s.reservations
  publishQueue := s.publishQueue
  engine := s.engine
  queues := s.queues
  holds := s.holds
  current := s.current?
  fillPointer p := (s.windows.get p).fillPointer
  account p := (s.ports.get p).account
  device := s.device.state

section
variable (s : State)

theorem State.updWindow_traffic (p : Port) {f : Window → Window} (h : ∀ w, (f w).fillPointer = w.fillPointer) :
    (s.updWindow p f).traffic = s.traffic := by
  have e : ∀ q, ((s.windows.modify p f).get q).fillPointer = (s.windows.get q).fillPointer := by
    intro q
    rw [PerPort.get_modify]
    split
    · next hq => rw [h, hq]
    · rfl
  simp only [State.traffic, State.updWindow_windows, e]
  rfl

theorem State.updPort_traffic (p : Port) {f : PortRecord → PortRecord}
    (h : (f (s.ports.get p)).account = (s.ports.get p).account) : (s.updPort p f).traffic = s.traffic := by
  have e : ∀ q, ((s.ports.modify p f).get q).account = (s.ports.get q).account := by
    intro q
    rw [PerPort.get_modify]
    split
    · next hq => rw [h, hq]
    · rfl
  simp only [State.traffic, State.updPort_ports, e]
  rfl

@[simp] theorem State.updEvents_traffic (p : Port) (f : EventUnit → EventUnit) : (s.updEvents p f).traffic = s.traffic := rfl
@[simp] theorem State.raise_traffic (p : Port) (e : Event) : (s.raise p e).traffic = s.traffic := rfl
@[simp] theorem State.report_traffic (p : Port) (k : ReportKind) : (s.report p k).traffic = s.traffic := rfl
@[simp] theorem State.updLock_traffic (l : LockId) (f : Lock → Lock) : (s.updLock l f).traffic = s.traffic := rfl
@[simp] theorem State.setWait_traffic (p : Port) (l : Option LockId) : (s.setWait p l).traffic = s.traffic := rfl
@[simp] theorem State.dropReports_traffic (p : Port) : (s.dropReports p).traffic = s.traffic := rfl
@[simp] theorem State.clearPending_traffic (p : Port) : (s.clearPending p).traffic = s.traffic := rfl
@[simp] theorem State.complete_traffic (p : Port) (c : Completion) : (s.complete p c).traffic = s.traffic := rfl
@[simp] theorem State.driveData_traffic (p : Port) (w : Word) : (s.driveData p w).traffic = s.traffic :=
  s.updWindow_traffic p fun _ => rfl

/-- A change of a channel that keeps its current value. -/
theorem State.updChannel_traffic (ch : ChannelId) {f : Channel → Channel}
    (h : ((f (s.channels.get ch)).defn.bind fun d => d.current) = s.current? ch) :
    (s.updChannel ch f).traffic = s.traffic := by
  have e : (s.updChannel ch f).current? = s.current? := by
    funext c
    simp only [State.current?, State.updChannel_channels, Table.get_modify]
    split
    · next hc => rw [h, hc]; rfl
    · rfl
  simp only [State.traffic, e]
  rfl

theorem State.updDefn_traffic (ch : ChannelId) {f : ChannelDef → ChannelDef} (h : ∀ d, (f d).current = d.current) :
    (s.updDefn ch f).traffic = s.traffic := by
  refine s.updChannel_traffic ch ?_
  unfold State.current?
  cases (s.channels.get ch).defn with
  | none => rfl
  | some d => exact h d

@[simp] theorem State.updSub_traffic (ch : ChannelId) (p : Port) (f : Subscription → Subscription) :
    (s.updSub ch p f).traffic = s.traffic := s.updDefn_traffic ch fun _ => rfl
@[simp] theorem State.setSub_traffic (ch : ChannelId) (q : Port) (b : Option Subscription) :
    (s.setSub ch q b).traffic = s.traffic := s.updDefn_traffic ch fun _ => rfl
@[simp] theorem State.countLost_traffic (p : Port) (ch : ChannelId) : (s.countLost p ch).traffic = s.traffic :=
  s.updSub_traffic ch p _
@[simp] theorem State.countExpired_traffic (p : Port) (ch : ChannelId) : (s.countExpired p ch).traffic = s.traffic :=
  s.updSub_traffic ch p _
@[simp] theorem State.notify_traffic (ch : ChannelId) (p : Port) : (s.notify ch p).traffic = s.traffic :=
  s.updSub_traffic ch p _

@[simp] theorem State.clearNews_traffic (p : Port) : (s.clearNews p).traffic = s.traffic := by
  have e : (s.clearNews p).current? = s.current? := by
    funext c
    simp only [State.current?, State.clearNews, Table.get_map, Channel.clearNew]
    cases (s.channels.get c).defn <;> rfl
  simp only [State.traffic, e]
  rfl

/-- What keeps the traffic one by one keeps it in a row. -/
theorem foldl_traffic {α : Type} {f : State → α → State} (h : ∀ s a, (f s a).traffic = s.traffic) (l : List α) (s : State) :
    (l.foldl f s).traffic = s.traffic := foldl_keeps f State.traffic h l s

@[simp] theorem State.raiseAll_traffic (e : Event) (ps : List Port) : (s.raiseAll e ps).traffic = s.traffic :=
  foldl_traffic (f := fun t p => t.raise p e) (fun _ _ => rfl) ps s

@[simp] theorem State.setPhase_traffic (ch : ChannelId) (d : ChannelDef) (x : ChannelPhase) :
    (s.setPhase ch d x).traffic = s.traffic := by
  rw [State.setPhase, State.raiseAll_traffic]
  exact s.updDefn_traffic ch fun _ => rfl

@[simp] theorem State.warnPool_traffic (b a : Nat) : (s.warnPool b a).traffic = s.traffic := by
  unfold State.warnPool
  split <;> simp

@[simp] theorem State.retire_traffic (r : Request) (m : Message) (o : PublishOutcome) (n : Counts) :
    (s.retire r m o n).traffic = s.traffic := by
  unfold State.retire
  split <;> simp

@[simp] theorem State.handoff_traffic (l : LockId) : (s.handoff l).traffic = s.traffic := by
  unfold State.handoff
  split <;> simp

@[simp] theorem State.handoffFrom_traffic (p : Port) (l : LockId) : (s.handoffFrom p l).traffic = s.traffic := by
  unfold State.handoffFrom
  split <;> simp

@[simp] theorem State.leaveList_traffic (p : Port) (l : LockId) : (s.leaveList p l).traffic = s.traffic := rfl
@[simp] theorem State.joinList_traffic (p : Port) (l : LockId) : (s.joinList p l).traffic = s.traffic := rfl

@[simp] theorem State.purgeLocks_traffic (p : Port) : (s.purgeLocks p).traffic = s.traffic := by
  unfold State.purgeLocks
  rw [foldl_traffic fun u l => u.handoffFrom_traffic p l]
  split <;> rfl

@[simp] theorem State.voteFell_traffic : s.voteFell.traffic = s.traffic := by
  unfold State.voteFell
  split <;> rfl

@[simp] theorem State.withdrawVote_traffic (p : Port) : (s.withdrawVote p).traffic = s.traffic := by
  rw [State.withdrawVote, State.voteFell_traffic]
  exact s.updPort_traffic p rfl

@[simp] theorem State.lowerScore_traffic (p : Port) : (s.lowerScore p).traffic = s.traffic := s.updPort_traffic p rfl

@[simp] theorem State.castVote_traffic (p : Port) : (s.castVote p).traffic = s.traffic := by
  unfold State.castVote
  split
  · rfl
  · rw [State.raiseAll_traffic]
    exact s.updPort_traffic p rfl

@[simp] theorem State.takeLease_traffic (l : LockId) : (s.takeLease l).traffic = s.traffic := by
  unfold State.takeLease
  split
  · rfl
  · split
    · rfl
    · split
      · rfl
      · simp [State.expireLease]

@[simp] theorem State.takeLeases_traffic : s.takeLeases.traffic = s.traffic :=
  foldl_traffic (fun u l => u.takeLease_traffic l) _ _

/-- A cool-down leaves the account alone. -/
theorem PortRecord.cool_account (r : PortRecord) : r.cool.account = r.account := by
  unfold PortRecord.cool
  split <;> rfl

@[simp] theorem State.takeCoolDowns_traffic : s.takeCoolDowns.traffic = s.traffic := by
  simp only [State.traffic, State.takeCoolDowns, PerPort.get_map, PortRecord.cool_account]
  rfl

@[simp] theorem State.locationFaulted_traffic (p : Port) (r : Response) (o : Byte) :
    (s.locationFaulted p r o).traffic = s.traffic := by
  rw [← State.locationFault_eq, State.locationFault, State.report_traffic, State.raise_traffic]
  exact s.updWindow_traffic p fun _ => rfl

@[simp] theorem State.shown_traffic (p : Port) (c : Command) (r : Response) (w : Words6) :
    (s.shown p c r w).traffic = s.traffic :=
  s.updWindow_traffic p (f := fun x =>
    { x with
      issued := none, response := r.code, results := w
      lastFault := if r.classOf = .fault then c.code ++ r.code else (s.windows.get p).lastFault }) fun _ => rfl

@[simp] theorem State.posted_traffic (p : Port) (c : Command) (r : Response) (w : Words6) :
    (s.posted p c r w).traffic = s.traffic := s.shown_traffic p c r w

end

/-! ### Moves -/

/-- A state between two moves: the slots whose last holder's reference is owed a release, and the slot whose expiry is under way,
with its channel. -/
structure Ledger where
  state : State
  owed : List SlotId
  dying : Option (SlotId × ChannelId)

/-- The moves. Each names the condition under which the part makes it. -/
inductive Move : Ledger → Ledger → Prop
  /-- Nothing that holds a slot changes. -/
  | quiet {s t : State} {o d} (same : t.traffic = s.traffic) : Move ⟨s, o, d⟩ ⟨t, o, d⟩
  /-- An owed reference is released (R5). -/
  | release (s : State) (i : SlotId) (o d) : Move ⟨s, i :: o, d⟩ ⟨s.release i, o, d⟩
  /-- A FREE slot owes nothing. -/
  | forget {s : State} {i : SlotId} (o d) (free : (s.slots.get i).use = .free) : Move ⟨s, i :: o, d⟩ ⟨s, o, d⟩
  /-- A port without a reservation has none (R10). -/
  | idle {s : State} {p : Port} (absent : s.reservations.get p = none) : Move ⟨s, [], none⟩ ⟨s.dropReservation p, [], none⟩
  /-- A reservation is given up (R14). -/
  | unreserve {s : State} {p : Port} {i : SlotId} (reserved : s.reservations.get p = some i) :
      Move ⟨s, [], none⟩ ⟨s.dropReservation p, [i], none⟩
  /-- Entries leave a delivery queue (R80). -/
  | unqueue (s : State) (p : Port) (f : Entry → Bool) (d) :
      Move ⟨s, [], d⟩ ⟨s.setQueue p ((s.queues.get p).filter fun e => !f e), ((s.queues.get p).filter f).map (·.slot), d⟩
  /-- The oldest entry that matches leaves a delivery queue (R55, R74). -/
  | pull {s : State} {p : Port} {f : Entry → Bool} {e : Entry} (oldest : (s.queues.get p).find? f = some e) :
      Move ⟨s, [], none⟩ ⟨s.pullOldest p f, [e.slot], none⟩
  /-- A read hold is emptied (R75). -/
  | unhold {s : State} {p : Port} {h : Hold} (held : s.holds.get p = some h) :
      Move ⟨s, [], none⟩ ⟨s.setHold p none, [h.entry.slot], none⟩
  /-- Requests leave the publish queue (R36, R63). -/
  | unrequest (s : State) (f : Request → Bool) :
      Move ⟨s, [], none⟩
        ⟨{ s with publishQueue := s.publishQueue.filter fun r => !f r }, (s.publishQueue.filter f).map (·.slot), none⟩
  /-- A channel loses its current value (R36, R92). -/
  | uncurrent {s : State} {ch : ChannelId} {i : SlotId} {g : Channel → Channel} (d) (current : s.current? ch = some i)
      (gone : ((g (s.channels.get ch)).defn.bind fun d => d.current) = none) : Move ⟨s, [], d⟩ ⟨s.updChannel ch g, [i], d⟩
  /-- Requests of a port are orphaned (R62). -/
  | orphan (s : State) (p : Port) : Move ⟨s, [], none⟩ ⟨s.orphanPublishes p, [], none⟩
  /-- Every lifetime falls (R119). -/
  | tick (s : State) : Move ⟨s, [], none⟩ ⟨{ s with slots := s.slots.map Slot.tick }, [], none⟩
  /-- The engine's expired mark is set (R64). -/
  | mark (s : State) (i : SlotId) : Move ⟨s, [], none⟩ ⟨s.markExpired i, [], none⟩
  /-- A SPREADING slot that the engine has marked, or a LIVE slot, becomes EXPIRED (R120). -/
  | expire {s : State} {i : SlotId} {m : Message} (message : s.message? i = some m)
      (phase : (m.phase = .spreading ∧ ∀ f, s.engine = some f → f.request.slot = i → f.expired = true ∧ f.cursor = .finish) ∨
        m.phase = .live) :
      Move ⟨s, [], none⟩
        ⟨s.updSlot i fun r => { r with use := .message { m with phase := .expired, lifetime := none } }, [], some (i, m.channel)⟩
  /-- The expiry is over: no entry and no current value names the slot (R120, R92). -/
  | buried {s : State} {i : SlotId} {ch : ChannelId} (entries : ∀ p, ∀ e ∈ s.queues.get p, e.slot ≠ i)
      (value : s.current? ch ≠ some i) : Move ⟨s, [], some (i, ch)⟩ ⟨s, [], none⟩
  /-- The head of the free list is reserved (R9). -/
  | reserve {s : State} {p : Port} {ch : ChannelId} {i : SlotId} {rest : List SlotId} (run : s.device.state = .run)
      (unreserved : s.reservations.get p = none) (head : s.freeList = i :: rest) :
      Move ⟨s, [], none⟩ ⟨s.reserveSlot p ch i rest, [], none⟩
  /-- A reservation becomes a request (R46). -/
  | publish {s : State} {p : Port} {i : SlotId} {ch : ChannelId} {q : Port} {d : ChannelDef} {a : Words6}
      (run : s.device.state = .run) (reserved : s.reservation? p = some (i, ch, q)) (length : a.w0.toNat ≤ s.geometry.slotSize) :
      Move ⟨s, [], none⟩ ⟨s.acceptPublish p i ch q d a, [], none⟩
  /-- The engine takes the head request (R52). -/
  | spread {s : State} {r : Request} {rest : List Request} {m : Message} (idle : s.engine = none)
      (head : s.publishQueue = r :: rest) (message : s.message? r.slot = some m) :
      Move ⟨s, [], none⟩ ⟨s.takeHead r rest, [], none⟩
  /-- The slot in fan-out becomes the current value of its channel (R85). -/
  | install {s : State} {f : FanOut} {m : Message} {d : ChannelDef} (spreading : s.engine = some f)
      (unfinished : f.cursor ≠ .finish) (message : s.message? f.request.slot = some m) (defined : s.defn? m.channel = some d) :
      Move ⟨s, [], none⟩
        ⟨(s.addRef f.request.slot).updDefn m.channel fun e => { e with current := some f.request.slot },
          (s.current? m.channel).toList, none⟩
  /-- The slot in fan-out is placed in a delivery queue (R54). -/
  | place {s : State} {f : FanOut} {p : Port} {e : Entry} (spreading : s.engine = some f) (unfinished : f.cursor ≠ .finish)
      (slot : e.slot = f.request.slot) (length : e.length ≤ s.geometry.slotSize) :
      Move ⟨s, [], none⟩ ⟨s.place p e, [], none⟩
  /-- The fan-out counts and goes on (R53). -/
  | advance {s : State} {f : FanOut} (p : Port) (n : Counts) (spreading : s.engine = some f) (unfinished : f.cursor ≠ .finish) :
      Move ⟨s, [], none⟩ ⟨s.advance f p n, [], none⟩
  /-- The engine gives up its request, whose slot settles (R58). -/
  | finish {s : State} {f : FanOut} (spreading : s.engine = some f) :
      Move ⟨s, [], none⟩
        ⟨{ s.updSlot f.request.slot Slot.settle with engine := none }, [f.request.slot], none⟩
  /-- The oldest entry that matches moves into the empty read hold (R72). -/
  | take {s : State} {p : Port} {f : Entry → Bool} {e : Entry} (run : s.device.state = .run) (empty : s.holds.get p = none)
      (oldest : (s.queues.get p).find? f = some e) :
      Move ⟨s, [], none⟩ ⟨(s.pullOldest p f).setHold p (some { entry := e, source := .stream, pointer := 0 }), [], none⟩
  /-- A current value is read into the empty read hold (R89). -/
  | read {s : State} {p : Port} {ch : ChannelId} {i : SlotId} {m : Message} (run : s.device.state = .run)
      (empty : s.holds.get p = none) (current : s.current? ch = some i) (message : s.message? i = some m) :
      Move ⟨s, [], none⟩ ⟨(s.addRef i).setHold p (some { entry := m.entry i, source := .state, pointer := 0 }), [], none⟩
  /-- A fill pointer moves (R11, R12). -/
  | fillTo {s : State} {p : Port} {i : SlotId} {k : Nat} (reserved : s.reservations.get p = some i)
      (range : k % 2 = 0 ∧ k ≤ s.geometry.slotSize) :
      Move ⟨s, [], none⟩ ⟨s.updWindow p fun w => { w with fillPointer := k }, [], none⟩
  /-- A read pointer moves (R76, R77). -/
  | readTo {s : State} {p : Port} {h : Hold} {k : Nat} (held : s.holds.get p = some h)
      (range : k % 2 = 0 ∧ k ≤ s.geometry.slotSize) :
      Move ⟨s, [], none⟩ ⟨s.setHold p (some { h with pointer := k }), [], none⟩
  /-- CONFIG becomes RUN (R153). -/
  | start (s : State) : Move ⟨s, [], none⟩ ⟨{ s with device := { s.device with state := .run } }, [], none⟩
  /-- The pool is rebuilt in CONFIG (R2). -/
  | rebuild {s : State} (g : Geometry) (config : s.device.state = .config) : Move ⟨s, [], none⟩ ⟨s.withGeometry g, [], none⟩
  /-- A device reset (R20). -/
  | reset (s : State) : Move ⟨s, [], none⟩ ⟨s.deviceReset, [], none⟩
  /-- Power-on (R19). -/
  | powerOn (s : State) : Move ⟨s, [], none⟩ ⟨s.powerOn, [], none⟩

/-- A chain of moves between states in which nothing is owed, in an expiry or outside of one. -/
def State.Leads (s : State) (d : Option (SlotId × ChannelId)) (t : State) : Prop :=
  Relation.ReflTransGen Move ⟨s, [], d⟩ ⟨t, [], d⟩

section
variable {s t u : State} {d : Option (SlotId × ChannelId)}

theorem State.Leads.refl (s : State) (d) : s.Leads d s := Relation.ReflTransGen.refl

theorem State.Leads.trans (h : s.Leads d t) (k : t.Leads d u) : s.Leads d u := Relation.ReflTransGen.trans h k

theorem State.Leads.of_move (h : Move ⟨s, [], d⟩ ⟨t, [], d⟩) : s.Leads d t := Relation.ReflTransGen.single h

/-- What leaves the traffic alone is a move. -/
theorem State.Leads.of_traffic (h : t.traffic = s.traffic) : s.Leads d t := .of_move (.quiet h)

theorem State.Leads.quiet (h : s.Leads d t) (e : u.traffic = t.traffic) : s.Leads d u := h.trans (.of_traffic e)

/-- Owed references are released one by one. -/
theorem Move.releaseAll (s : State) (is : List SlotId) (d) : Relation.ReflTransGen Move ⟨s, is, d⟩ ⟨s.releaseAll is, [], d⟩ := by
  induction is generalizing s with
  | nil => exact .refl
  | cons i is ih => exact .head (.release s i is d) (ih (s.release i))

/-- A holder gives up slots and their references are released. -/
theorem State.Leads.of_owed {is : List SlotId} (h : Move ⟨s, [], d⟩ ⟨t, is, d⟩) : s.Leads d (t.releaseAll is) :=
  .head h (Move.releaseAll t is d)

/-- A holder gives up one slot and its reference is released. -/
theorem State.Leads.of_owed_one {i : SlotId} (h : Move ⟨s, [], d⟩ ⟨t, [i], d⟩) : s.Leads d (t.release i) := .of_owed h

/-- Rows of operations. -/
theorem State.Leads.foldl {α : Type} {f : State → α → State} (h : ∀ (s : State) a, s.Leads d (f s a)) (l : List α) (s : State) :
    s.Leads d (l.foldl f s) := by
  induction l generalizing s with
  | nil => exact .refl s d
  | cons a l ih => exact (h s a).trans (ih (f s a))

end

end Sys2Proof.Machine
end

section
/-! Every operation on the slot pool is a chain of moves. -/

namespace Sys2Proof.Machine

/-! ### Messages of slots -/

theorem State.message?_eq_some {s : State} {i : SlotId} {m : Message} :
    s.message? i = some m ↔ (s.slots.get i).use = .message m := by
  unfold State.message?
  split <;> simp_all

theorem State.message?_eq_none_of_free {s : State} {i : SlotId} (h : (s.slots.get i).use = .free) : s.message? i = none := by
  simp [State.message?, h]

/-- Messages depend on the slot records alone. -/
theorem State.message?_congr {s t : State} (h : t.slots = s.slots) (i : SlotId) : t.message? i = s.message? i := by
  simp [State.message?, h]

/-! ### A release and a change of other fields, in either order -/

section
variable (s : State) (i : SlotId)

/-- A change that neither reads nor writes what a release does may come before it. -/
theorem State.release_comm (g : State → State) (same : (g s).slots = s.slots) (free : g (s.freeSlot i) = (g s).freeSlot i)
    (lower : g (s.updSlot i fun r => { r with refs := r.refs - 1 }) = (g s).updSlot i fun r => { r with refs := r.refs - 1 }) :
    g (s.release i) = (g s).release i := by
  rw [State.release, State.release, same]
  split
  · exact free
  · exact lower

theorem State.release_setHold (p : Port) (h : Option Hold) : (s.release i).setHold p h = (s.setHold p h).release i :=
  s.release_comm i (·.setHold p h) rfl rfl rfl

theorem State.release_dropReservation (p : Port) : (s.release i).dropReservation p = (s.dropReservation p).release i :=
  s.release_comm i (·.dropReservation p) rfl rfl rfl

theorem State.release_updChannel (ch : ChannelId) (f : Channel → Channel) :
    (s.release i).updChannel ch f = (s.updChannel ch f).release i :=
  s.release_comm i (·.updChannel ch f) rfl rfl rfl

theorem State.release_noEngine : ({ s.release i with engine := none } : State) = ({ s with engine := none } : State).release i :=
  s.release_comm i (fun t => { t with engine := none }) rfl rfl rfl

end

/-! ### Settling (R58) -/

/-- A SPREADING slot that settles is LIVE; any other record stays. -/
theorem Slot.settle_eq (r : Slot) :
    (∃ m, r.use = .message m ∧ m.phase = .spreading ∧ r.settle = { r with use := .message { m with phase := .live } }) ∨
      ((∀ m, r.use = .message m → m.phase ≠ .spreading) ∧ r.settle = r) := by
  obtain ⟨use, refs⟩ := r
  cases use with
  | free => exact .inr ⟨by simp, rfl⟩
  | filling _ _ => exact .inr ⟨by simp, rfl⟩
  | message m =>
    by_cases h : m.phase = .spreading
    · exact .inl ⟨m, rfl, h, by simp [Slot.settle, Slot.withPhase, h]⟩
    · exact .inr ⟨by simpa using h, by simp [Slot.settle, h]⟩

/-- Settling keeps the count. -/
@[simp] theorem Slot.settle_refs (r : Slot) : r.settle.refs = r.refs := by
  rcases r.settle_eq with ⟨m, -, -, e⟩ | ⟨-, e⟩ <;> rw [e]

/-- Settling keeps the account. -/
@[simp] theorem Slot.settle_account (r : Slot) : r.settle.use.account? = r.use.account? := by
  rcases r.settle_eq with ⟨m, h, -, e⟩ | ⟨-, e⟩ <;> rw [e]
  rw [h]
  rfl

/-- Settling and counting do not meet. -/
theorem Slot.settle_withRefs (r : Slot) (n : Nat) : ({ r with refs := n } : Slot).settle = { r.settle with refs := n } := by
  obtain ⟨use, refs⟩ := r
  cases use with
  | free => rfl
  | filling _ _ => rfl
  | message m =>
    unfold Slot.settle Slot.withPhase
    dsimp only
    split <;> rfl

section
variable (s : State) (i : SlotId)

/-- A slot may settle before or after a release of its own (R58). -/
theorem State.release_settle : (s.release i).updSlot i Slot.settle = (s.updSlot i Slot.settle).release i := by
  have get : ((s.updSlot i Slot.settle).slots.get i) = (s.slots.get i).settle := by simp [Table.get_modify]
  simp only [State.release, get, Slot.settle_refs]
  split
  · have e : (Table.set s.slots i Slot.free).modify i Slot.settle = (s.slots.modify i Slot.settle).set i Slot.free := by
      simp [Table.modify, Slot.settle, Slot.free]
    simp only [State.freeSlot, get, Slot.settle_account]
    simp only [State.updSlot, e]
  · have e : (s.slots.modify i fun r => { r with refs := r.refs - 1 }).modify i Slot.settle =
        (s.slots.modify i Slot.settle).modify i fun r => { r with refs := r.refs - 1 } := by
      simp [Table.modify, Slot.settle_withRefs, Slot.settle_refs]
    simp only [State.updSlot, e]

end

/-! ### Entries, holds, reservations -/

section
variable (s : State)

theorem State.dropEntries_leads (p : Port) (f : Entry → Bool) (d) : s.Leads d (s.dropEntries p f) := .of_owed (.unqueue s p f d)

theorem State.dropReservation_leads {p : Port} (h : s.reservations.get p = none) : s.Leads none (s.dropReservation p) :=
  .of_move (.idle h)

theorem State.abandon_leads {p : Port} {i : SlotId} (h : s.reservations.get p = some i) :
    s.Leads none ((s.release i).dropReservation p) := by
  rw [State.release_dropReservation]
  exact .of_owed_one (.unreserve h)

theorem State.emptyHold_leads (p : Port) : s.Leads none (s.emptyHold p) := by
  unfold State.emptyHold
  split
  · next h hh =>
    rw [State.release_setHold]
    exact .of_owed_one (.unhold hh)
  · exact .refl s none

theorem State.loseOldest_leads (p : Port) (ch : ChannelId) : s.Leads none (s.loseOldest p ch) := by
  unfold State.loseOldest
  split
  · next e he => exact .quiet (.of_owed_one (.pull he)) (State.countLost_traffic _ p ch)
  · exact .refl s none

theorem State.trim_leads (p : Port) (ch : ChannelId) (k : Nat) : s.Leads none (s.trim p ch k) := by
  induction k generalizing s with
  | zero => exact .refl s none
  | succ k ih => exact (s.loseOldest_leads p ch).trans (ih _)

/-! ### The purge (R132) -/

theorem State.purgeReservation_leads (p : Port) : s.Leads none (s.purgeReservation p) := by
  unfold State.purgeReservation
  split
  · next i hi => exact s.abandon_leads hi
  · next hn => exact s.dropReservation_leads hn

theorem Window.discard_fillPointer (w : Window) : w.discard.fillPointer = w.fillPointer := by
  unfold Window.discard
  split <;> rfl

theorem State.discard_traffic (p : Port) : (s.updWindow p Window.discard).traffic = s.traffic :=
  s.updWindow_traffic p Window.discard_fillPointer

theorem State.purge_leads (p : Port) : s.Leads none (s.purge p) := by
  have h1 : s.Leads none (s.updWindow p Window.discard) := .of_traffic (s.discard_traffic p)
  have h2 := h1.trans (State.purgeReservation_leads _ p)
  have h3 := h2.trans ((State.dropEntries_leads _ p (fun _ => true) none).trans (State.emptyHold_leads _ p))
  have h4 := h3.quiet (State.clearNews_traffic _ p)
  have h5 := h4.trans (.of_move (.orphan _ p))
  have h6 := h5.quiet (State.purgeLocks_traffic _ p)
  have h7 := h6.quiet (State.withdrawVote_traffic _ p)
  exact (h7.quiet (State.clearPending_traffic _ p)).quiet (State.dropReports_traffic _ p)

theorem State.isolate_leads (p : Port) : s.Leads none (s.isolate p) := by
  refine State.Leads.trans (.of_traffic ?_) (State.purge_leads _ p)
  refine (State.updWindow_traffic _ p ?_).trans (s.updPort_traffic p ?_)
  · exact fun _ => rfl
  · rfl

theorem State.charge_leads (p : Port) : s.Leads none (s.charge p) := by
  unfold State.charge
  dsimp only
  split_ifs
  · exact s.isolate_leads p
  · exact .of_traffic ((State.raise_traffic _ p .score).trans (s.updPort_traffic p rfl))
  · exact .of_traffic (s.updPort_traffic p rfl)

theorem State.score_leads (p : Port) (k : ReportKind) : s.Leads none (s.score p k) := by
  unfold State.score
  split
  · cases k
    · exact .of_traffic (s.lowerScore_traffic p)
    · exact .refl s none
    · exact s.charge_leads p
    · exact s.charge_leads p
  · exact .refl s none

theorem State.detached_leads (p : Port) : s.Leads none (s.detached p) :=
  ((State.Leads.of_traffic (s.lowerScore_traffic p)).trans (State.purge_leads _ p)).quiet (State.updPort_traffic _ p rfl)

theorem State.portReset_leads (p : Port) : s.Leads none (s.portReset p) := by
  have h : s.Leads none (s.portResetByState p) := by
    unfold State.portResetByState
    split
    · exact (s.purge_leads p).quiet (State.updPort_traffic _ p rfl)
    · exact .of_traffic ((State.clearPending_traffic _ p).trans (s.discard_traffic p))
  exact (h.quiet (State.updEvents_traffic _ p _)).quiet (State.updWindow_traffic _ p fun _ => rfl)

/-! ### Requests withdrawn, channels closed (R36, R63) -/

/-- Owed references of withdrawn requests, whose slots hold messages or have been freed, are released one by one. -/
theorem Move.withdrawAll (o : PublishOutcome) (rs : List Request) (s : State)
    (h : ∀ r ∈ rs, (∃ m, (s.slots.get r.slot).use = .message m) ∨ (s.slots.get r.slot).use = .free) :
    Relation.ReflTransGen Move ⟨s, rs.map (·.slot), none⟩ ⟨rs.foldl (State.withdraw · o) s, [], none⟩ := by
  induction rs generalizing s with
  | nil => exact .refl
  | cons r rs ih =>
    rw [List.foldl_cons, List.map_cons]
    unfold State.withdraw
    rcases h r (List.mem_cons_self ..) with ⟨m, hm⟩ | hf
    · rw [State.message?_eq_some.2 hm]
      refine .head (.quiet (State.retire_traffic s r m o Counts.zero)) (.head (.release _ r.slot _ _) (ih _ fun q hq => ?_))
      have e : (s.retire r m o Counts.zero).slots = s.slots := by simp
      rcases State.release_use (s.retire r m o Counts.zero) r.slot q.slot with k | ⟨-, k⟩
      · rw [k, e]
        exact h q (List.mem_cons_of_mem _ hq)
      · exact .inr k
    · rw [State.message?_eq_none_of_free hf]
      exact .head (.forget _ _ hf) (ih s fun q hq => h q (List.mem_cons_of_mem _ hq))

/-- Requests whose slots hold messages leave the publish queue and are withdrawn. -/
theorem State.withdraw_leads (o : PublishOutcome) (f : Request → Bool)
    (h : ∀ r, f r = true → ∃ m, (s.slots.get r.slot).use = .message m) :
    s.Leads none ((s.publishQueue.filter f).foldl (State.withdraw · o)
      { s with publishQueue := s.publishQueue.filter fun r => !f r }) :=
  .head (.unrequest s f) (Move.withdrawAll o _ _ fun r hr => .inl (h r (List.mem_filter.1 hr).2))

theorem State.closeRequests_leads (ch : ChannelId) : s.Leads none (s.closeRequests ch) := by
  refine s.withdraw_leads .channelClosed (s.requestOn ch) fun r hr => ?_
  obtain ⟨m, hm, -⟩ := (Option.any_eq_true _ _).1 hr
  exact ⟨m, State.message?_eq_some.1 hm⟩

theorem State.closeEntries_leads (ch : ChannelId) : s.Leads none (s.closeEntries ch) :=
  .foldl (f := fun t q => t.dropEntries q fun e => decide (e.channel = ch)) (fun t q => t.dropEntries_leads q _ none) _ s

/-- The current value is released and the channel becomes UNUSED. -/
theorem State.closeCurrent_leads {ch : ChannelId} {d : ChannelDef} (h : s.current? ch = d.current) :
    s.Leads none ((s.closeCurrent d).updChannel ch fun c => { c with defn := none }) := by
  unfold State.closeCurrent
  split
  · next i hi =>
    rw [State.release_updChannel]
    exact .of_owed_one (.uncurrent none (h.trans hi) rfl)
  · next hn => exact .of_traffic (s.updChannel_traffic ch (h.trans hn).symm)

theorem State.closeChannel_leads (ch : ChannelId) : s.Leads none (s.closeChannel ch) := by
  unfold State.closeChannel
  split
  · exact .refl s none
  · next d hd =>
    have h1 := (s.closeRequests_leads ch).trans (State.closeEntries_leads _ ch)
    have value : ((s.closeRequests ch).closeEntries ch).current? ch = d.current := by
      have e : (s.channels.get ch).defn = some d := hd
      simp [State.current?, e]
    exact (h1.trans (State.closeCurrent_leads _ value)).quiet (State.raiseAll_traffic _ _ _)

theorem State.closeIfClosing_leads (ch : ChannelId) : s.Leads none (s.closeIfClosing ch) := by
  unfold State.closeIfClosing
  split
  · exact s.closeChannel_leads ch
  · exact .refl s none

/-! ### Fan-out (R52 to R58) -/

/-- Moving a slot's message to another phase. -/
theorem Slot.withPhase_message {r : Slot} {m : Message} (h : r.use = .message m) (x : MessagePhase) :
    (r.withPhase x).use = .message { m with phase := x } := by
  simp [Slot.withPhase, h]

theorem State.startFanOut_leads {r : Request} {rest : List Request} {m : Message} (idle : s.engine = none)
    (head : s.publishQueue = r :: rest) (message : s.message? r.slot = some m) : s.Leads none (s.startFanOut r rest m) := by
  have h1 : s.Leads none (s.takeHead r rest) := .of_move (.spread idle head message)
  have e1 : (s.takeHead r rest).engine = some { request := r, cursor := .visit .A, counts := Counts.zero, expired := false } := rfl
  have e2 : (s.takeHead r rest).message? r.slot = some { m with phase := .spreading } := by
    rw [State.message?_eq_some]
    simp only [State.takeHead, State.updSlot_slots, Table.get_modify, if_true]
    exact Slot.withPhase_message (State.message?_eq_some.1 message) _
  unfold State.startFanOut
  dsimp only
  split
  · exact h1
  next d hd =>
  split
  · exact h1
  refine h1.trans ?_
  have move := Move.install e1 (by simp) e2 hd
  unfold State.installCurrent
  have value : (s.takeHead r rest).current? m.channel = d.current := by
    have e : ((s.takeHead r rest).channels.get m.channel).defn = some d := hd
    simp only [State.current?, e, Option.bind_some]
  rw [show ({ m with phase := .spreading } : Message).channel = m.channel from rfl, value] at move
  cases hc : d.current with
  | none =>
    rw [hc] at move
    exact .of_move move
  | some j =>
    rw [hc] at move
    exact .of_owed_one move

/-- A placement with room, or after the oldest entry has given way (R54, R55). -/
theorem State.place_advance_leads {f : FanOut} {p : Port} {e : Entry} (n : Counts) (spreading : s.engine = some f)
    (unfinished : f.cursor ≠ .finish) (slot : e.slot = f.request.slot) (length : e.length ≤ s.geometry.slotSize) :
    s.Leads none ((s.place p e).advance f p n) :=
  (State.Leads.of_move (.place spreading unfinished slot length)).trans
    (.of_move (.advance p n (by simpa using spreading) unfinished))

theorem State.visit_leads {f : FanOut} {p : Port} {m : Message} (spreading : s.engine = some f) (next : f.cursor = .visit p)
    (length : m.length ≤ s.geometry.slotSize) : s.Leads none (s.visit f p m) := by
  have unfinished : f.cursor ≠ .finish := by simp [next]
  have advances : ∀ (t : State) n, t.engine = s.engine → s.Leads none t → s.Leads none (t.advance f p n) := fun t n e k =>
    k.trans (.of_move (.advance p n (e.trans spreading) unfinished))
  unfold State.visit
  dsimp only
  split
  case h_1 => exact advances s _ rfl (.refl s none)
  case h_2 => exact advances s _ rfl (.refl s none)
  case h_3 => exact advances s _ rfl (.refl s none)
  case h_5 => exact advances _ _ (by simp) (.of_traffic (s.notify_traffic m.channel p))
  case h_4 b _ =>
    unfold State.placeStream
    split_ifs
    · exact s.place_advance_leads _ spreading unfinished rfl length
    · exact (s.loseOldest_leads p _).trans
        (State.place_advance_leads _ _ (by simpa using spreading) unfinished rfl (by simpa [Message.placed] using length))
    · exact advances _ _ (by simp) (.of_traffic (s.countLost_traffic p _))

theorem State.endFanOut_leads {f : FanOut} {m : Message} (spreading : s.engine = some f) : s.Leads none (s.endFanOut f m) := by
  unfold State.endFanOut
  dsimp only
  refine State.Leads.trans ?_ (State.closeIfClosing_leads _ m.channel)
  have h : s.Leads none (({ s.updSlot f.request.slot Slot.settle with engine := none } : State).release f.request.slot) :=
    .of_owed_one (.finish spreading)
  refine h.quiet ?_
  rw [← State.release_noEngine, ← State.release_settle]
  have e := State.retire_traffic ((s.release f.request.slot).updSlot f.request.slot Slot.settle) f.request m f.outcome f.counts
  exact congrArg (fun x : Traffic => { x with engine := none }) e

/-! ### Expiry and the base tick (R119, R120) -/

/-- After the expiry of its entries a queue lists the slot no more. -/
theorem State.expireEntries_queues (i : SlotId) (ch : ChannelId) (p q : Port) :
    ((s.expireEntries i ch p).queues.get q) =
      if q = p then (s.queues.get p).filter fun e => !decide (e.slot = i) else s.queues.get q := by
  unfold State.expireEntries
  split
  · simp [State.dropEntries, PerPort.get_set]
  · next h =>
    split
    · next hq =>
      subst hq
      refine (List.filter_eq_self.2 fun e he => ?_).symm
      simpa using fun k => h (List.any_eq_true.2 ⟨e, he, by simpa using k⟩)
    · rfl

theorem State.expireAll_queues (ps : List Port) (i : SlotId) (ch : ChannelId) (s : State) {q : Port} (hq : q ∈ ps) :
    ∀ e ∈ (ps.foldl (fun t p => t.expireEntries i ch p) s).queues.get q, e.slot ≠ i := by
  have keeps : ∀ (ps : List Port) (s : State), (∀ e ∈ s.queues.get q, e.slot ≠ i) →
      ∀ e ∈ (ps.foldl (fun t p => t.expireEntries i ch p) s).queues.get q, e.slot ≠ i := by
    intro ps
    induction ps with
    | nil => exact fun s h => h
    | cons p ps ih =>
      intro s h
      refine ih _ fun e he => ?_
      rw [State.expireEntries_queues] at he
      split at he
      · next hp =>
        subst hp
        exact h e (List.mem_of_mem_filter he)
      · exact h e he
  induction ps generalizing s with
  | nil => simp at hq
  | cons p ps ih =>
    by_cases hp : q = p
    · refine keeps ps _ fun e he => ?_
      rw [State.expireEntries_queues, if_pos hp] at he
      simpa using (List.mem_filter.1 he).2
    · exact ih _ ((List.mem_cons.1 hq).resolve_left hp)

theorem State.expireEntries_leads (i : SlotId) (ch : ChannelId) (p : Port) (d) : s.Leads d (s.expireEntries i ch p) := by
  unfold State.expireEntries
  split
  · exact (s.dropEntries_leads p _ d).quiet (State.countExpired_traffic _ p ch)
  · exact .refl s d

/-- The withdrawal of a current value, after which it is not the channel's (R92). -/
theorem State.withdrawCurrent_leads (ch : ChannelId) (i : SlotId) (d) :
    s.Leads d (s.withdrawCurrent ch i) ∧ (s.withdrawCurrent ch i).current? ch ≠ some i := by
  unfold State.withdrawCurrent
  split
  · next hn =>
    have e : (s.channels.get ch).defn = none := hn
    exact ⟨.refl s d, by simp [State.current?, e]⟩
  next x hx =>
  have e : (s.channels.get ch).defn = some x := hx
  split
  · next hc =>
    generalize ht : x.unread.foldl (fun t q => t.countExpired q ch) s = t
    have quiet : t.traffic = s.traffic := ht ▸ foldl_traffic (fun u q => u.countExpired_traffic q ch) x.unread s
    have value : t.current? ch = some i := by
      rw [show t.current? = s.current? from congrArg Traffic.current quiet]
      simp [State.current?, e, hc]
    have gone : ∀ (c : Channel) (g : ChannelDef → ChannelDef), (∀ y, (g y).current = none) →
        (({ c with defn := c.defn.map g } : Channel).defn.bind fun y => y.current) = none := by
      intro c g hg
      show (c.defn.map g).bind _ = none
      cases c.defn with
      | none => rfl
      | some y => exact hg y
    refine ⟨(State.Leads.of_traffic quiet).trans (.of_owed_one (.uncurrent d value (gone _ _ fun _ => rfl))), ?_⟩
    simp only [State.current?, State.release_frame, State.updDefn, State.updChannel_channels, Table.get_modify, if_true]
    rw [gone _ _ fun _ => rfl]
    simp
  · next hc => exact ⟨.refl s d, by simpa [State.current?, e] using hc⟩

theorem State.expireLive_leads {i : SlotId} {m : Message} (message : s.message? i = some m)
    (phase : (m.phase = .spreading ∧ ∀ f, s.engine = some f → f.request.slot = i → f.expired = true ∧ f.cursor = .finish) ∨
      m.phase = .live) : s.Leads none (s.expireLive i m) := by
  unfold State.expireLive
  generalize ht : Port.all.foldl (fun t p => t.expireEntries i m.channel p)
    (s.updSlot i fun r => { r with use := .message { m with phase := .expired, lifetime := none } }) = t
  have entries : ∀ p, ∀ e ∈ t.queues.get p, e.slot ≠ i := fun p => ht ▸ State.expireAll_queues _ i m.channel _ p.mem_all
  obtain ⟨h2, value⟩ := t.withdrawCurrent_leads m.channel i (some (i, m.channel))
  have h1 : State.Leads (s.updSlot i fun r => { r with use := .message { m with phase := .expired, lifetime := none } })
      (some (i, m.channel)) t :=
    ht ▸ .foldl (fun u p => u.expireEntries_leads i m.channel p _) _ _
  exact .head (.expire message phase) ((h1.trans h2).tail (.buried (by simpa using entries) value))

theorem State.markExpired_engine {i : SlotId} {f : FanOut} (h : (s.markExpired i).engine = some f) (hi : f.request.slot = i) :
    f.expired = true ∧ f.cursor = .finish := by
  obtain ⟨g, -, hg⟩ := Option.map_eq_some_iff.1 h
  split at hg
  · cases hg
    exact ⟨rfl, rfl⟩
  · next hn =>
    cases hg
    exact absurd hi hn

theorem State.expireSlot_leads {i : SlotId} {m : Message} (message : s.message? i = some m) : s.Leads none (s.expireSlot i m) := by
  unfold State.expireSlot
  split
  · refine s.withdraw_leads .expired (fun r => decide (r.slot = i)) fun r hr => ⟨m, ?_⟩
    rw [of_decide_eq_true hr]
    exact State.message?_eq_some.1 message
  · next hp =>
    refine (State.Leads.of_move (.mark s i)).trans (State.expireLive_leads _ ?_ (.inl ⟨hp, fun f hf => s.markExpired_engine hf⟩))
    exact (State.message?_congr rfl i).trans message
  · next hp => exact s.expireLive_leads message (.inr hp)
  · exact .refl s none

theorem State.takeLifetime_leads (i : SlotId) : s.Leads none (s.takeLifetime i) := by
  have h : s.Leads none { s with due := { s.due with slots := s.due.slots.filter fun j => decide (j ≠ i) } } := .of_traffic rfl
  unfold State.takeLifetime
  dsimp only
  split
  · exact h
  next m hm =>
  split
  · exact h.trans (State.expireSlot_leads _ hm)
  · exact h

theorem State.takeAuthorization_leads : s.Leads none s.takeAuthorization := by
  have h : s.Leads none { s with due := { s.due with authorization := false } } := .of_traffic rfl
  unfold State.takeAuthorization
  dsimp only
  split_ifs
  · exact h.trans (.of_move (.reset _))
  · exact .of_traffic rfl
  · exact h

/-- Device control's tick leaves the device state. -/
theorem State.deviceTick_state : s.deviceTick.state = s.device.state := by
  unfold State.deviceTick
  split <;> rfl

theorem State.deliverTick_leads : s.Leads none s.deliverTick := by
  refine (State.Leads.of_move (.tick s)).quiet ?_
  have account : ∀ p, ((s.deliverTick.ports).get p).account = (s.ports.get p).account := by
    intro p
    simp only [State.deliverTick]
    split <;> simp [PortRecord.cool_account]
  simp only [State.traffic, account]
  simp only [State.deliverTick, State.deviceTick_state]
  rfl

theorem State.baseTick_leads : s.Leads none s.baseTick :=
  State.baseTick_keeps (P := fun t => s.Leads none t) (fun _ i h => h.trans (State.takeLifetime_leads _ i))
    (fun _ h => h.quiet (State.takeLeases_traffic _)) (fun _ h => h.quiet (State.takeCoolDowns_traffic _))
    (fun _ h => h.trans (State.takeAuthorization_leads _)) (fun _ h => h.trans (.of_move (.reset _)))
    (fun _ h => h.trans (State.deliverTick_leads _)) (.refl s none)

end

end Sys2Proof.Machine
end

section
/-! Every row is a chain of moves, given the pointers and lengths that the geometry bounds. -/

namespace Sys2Proof.Machine

/-- A slot size is even, so an even pointer below it may advance by two (R1). -/
theorem Geometry.advance_le (g : Geometry) {k : Nat} (even : k % 2 = 0) (below : k < g.slotSize) :
    (k + 2) % 2 = 0 ∧ k + 2 ≤ g.slotSize := by
  cases g <;> simp only [Geometry.slotSize] at * <;> omega

theorem State.pointerInRange_eq_true {s : State} {w : Word} (h : s.pointerInRange w = true) :
    w.toNat % 2 = 0 ∧ w.toNat ≤ s.geometry.slotSize := by
  simp only [State.pointerInRange, Bool.and_eq_true, decide_eq_true_eq] at h
  exact ⟨h.1, by omega⟩

/-- A message that passes the checks of PUBLISH fits its slot (R45). -/
theorem State.length_of_publishCheck {s : State} {p : Port} {d : ChannelDef} {a : Words6} (h : s.publishCheck p d a = none) :
    a.w0.toNat ≤ s.geometry.slotSize := by
  unfold State.publishCheck at h
  split_ifs at h with _ _ _ hl
  exact Nat.le_of_not_lt fun k => hl (.inr k)

section
variable {s t : State}

/-- What a command makes of the state is a chain of moves. -/
theorem State.Takes.leads {p : Port} {a : Words6} {c : Command} (h : s.Takes p a c t) : s.Leads none t := by
  cases h
  case unchanged => exact .refl s none
  case attach =>
    refine .of_traffic ((State.updWindow_traffic _ p ?_).trans (s.updPort_traffic p ?_))
    · exact fun _ => rfl
    · rfl
  case detach => exact s.detached_leads p
  case voteReset => exact .of_traffic (s.castVote_traffic p)
  case withdrawVote => exact .of_traffic (s.withdrawVote_traffic p)
  case start => exact .of_move (.start s)
  case setGeometry g cfg _ _ => exact .of_move (.rebuild g cfg)
  case setTimebase => exact .of_traffic rfl
  case setQuorum => exact .of_traffic rfl
  case setWatermark => exact .of_traffic rfl
  case reserve ch i rest run _ _ unreserved _ head =>
    exact (State.Leads.of_move (.reserve run unreserved head)).quiet (State.warnPool_traffic _ _ _)
  case abandon i _ reserved => exact s.abandon_leads reserved
  case publish i ch q d run _ _ reserved _ passed =>
    exact .of_move (.publish run reserved (State.length_of_publishCheck passed))
  case collect => exact .of_traffic (State.updPort_traffic _ p rfl)
  case take x e run _ empty _ oldest => exact .of_move (.take run empty oldest)
  case discard x e _ _ _ oldest => exact .of_owed_one (.pull oldest)
  case done => exact s.emptyHold_leads p
  case readState ch d i m run _ empty defined current message =>
    have e : (s.channels.get ch).defn = some d := defined
    have value : s.current? ch = some i := by simp [State.current?, e, current]
    exact (State.Leads.of_move (.read run empty value message)).quiet (State.updSub_traffic _ _ _ _)
  case acquireFree => exact .of_traffic (s.updLock_traffic _ _)
  case acquireQueued => exact .of_traffic (s.joinList_traffic p _)
  case release => exact .of_traffic (s.handoff_traffic _)
  case renew => exact .of_traffic (s.updLock_traffic _ _)
  case cancelWait => exact .of_traffic (s.leaveList_traffic p _)
  case defineChannel ch kind publishers unused =>
    have e : (s.channels.get ch).defn = none := unused
    exact .of_traffic (s.updChannel_traffic ch (by simp [State.current?, e]))
  case setChannel => exact .of_traffic (s.updDefn_traffic _ fun _ => rfl)
  case subscribeNew => exact .of_traffic (s.setSub_traffic _ _ _)
  case subscribeAgain => exact (State.Leads.of_traffic (s.setSub_traffic _ _ _)).trans (State.trim_leads _ _ _ _)
  case unsubscribe => exact (s.dropEntries_leads _ _ none).quiet (State.setSub_traffic _ _ _ _)
  case suspend => exact .of_traffic (s.setPhase_traffic _ _ _)
  case resume => exact .of_traffic (s.setPhase_traffic _ _ _)
  case closeDeferred => exact .of_traffic (s.updDefn_traffic _ fun _ => rfl)
  case closeNow => exact s.closeChannel_leads _
  case freezeChannel => exact .of_traffic (s.updChannel_traffic _ rfl)
  case setLease => exact .of_traffic (s.updLock_traffic _ _)
  case freezeLock => exact .of_traffic (s.updLock_traffic _ _)
  case clearCounts => exact .of_traffic (s.updSub_traffic _ _ _)

/-- What an event or an access makes of the state is a chain of moves. -/
theorem State.Happens.leads (w : s.WithinGeometry) (h : s.Happens t) : s.Leads none t := by
  cases h
  case unchanged => exact .refl s none
  case locationFault => exact .of_traffic (s.locationFaulted_traffic _ _ _)
  case commandIssued p c _ => exact .of_traffic (s.updWindow_traffic p fun _ => rfl)
  case codeRejected p code _ =>
    exact .of_traffic ((State.report_traffic _ p .fault).trans
      ((State.raise_traffic _ p .fault).trans (s.updWindow_traffic p fun _ => rfl)))
  case filled p i x reserved below _ =>
    have moved : (s.storeWord i (s.windows.get p).fillPointer x).traffic = s.traffic := rfl
    exact (State.Leads.of_traffic moved).trans
      (.of_move (.fillTo reserved (s.geometry.advance_le (w.fillPointer p).1 below)))
  case fillPointed p i x reserved range => exact .of_move (.fillTo reserved (State.pointerInRange_eq_true range))
  case driven p x => exact .of_traffic (s.driveData_traffic p x)
  case dataRead p x held below =>
    have inside := Nat.lt_of_lt_of_le below (w.held p x held).2
    exact (State.Leads.of_traffic (s.driveData_traffic p _)).trans
      (.of_move (.readTo held (s.geometry.advance_le (w.readPointer p x held).1 inside)))
  case readPointed p x k held range => exact .of_move (.readTo held (State.pointerInRange_eq_true range))
  case eventsWritten => exact .of_traffic (s.updEvents_traffic _ _)
  case ticksRead p => exact .of_traffic ((State.driveData_traffic _ p _).trans (s.updWindow_traffic p fun _ => rfl))
  case plainWritten p off x => exact .of_traffic (s.updWindow_traffic p fun _ => rfl)
  case powerOn => exact .of_move (.powerOn s)
  case pornReleased => exact .of_traffic rfl
  case portReset => exact s.portReset_leads _
  case ticked => exact s.baseTick_leads
  case counted => exact .of_traffic rfl
  case lifetimeEnds => exact s.takeLifetime_leads _
  case leasesTick => exact .of_traffic s.takeLeases_traffic
  case coolDownsTick => exact .of_traffic s.takeCoolDowns_traffic
  case authorizationTicks => exact s.takeAuthorization_leads
  case scored p k _ =>
    have erased : ({ s with reports := s.reports.erase { port := p, kind := k } } : State).traffic = s.traffic := rfl
    exact (State.Leads.of_traffic erased).trans (State.score_leads _ p k)
  case fanOutStarts idle head message => exact s.startFanOut_leads idle head message
  case visited f p m spreading next message => exact s.visit_leads spreading next (w.message _ m message).2
  case fanOutEnds spreading _ _ => exact s.endFanOut_leads spreading

/-- What a row makes of the state is a chain of moves. -/
theorem State.Steps.leads (w : s.WithinGeometry) (h : s.Steps t) : s.Leads none t :=
  h.keeps (P := fun t => s.Leads none t) (fun _ _ _ _ k => k.leads) (fun _ _ _ _ _ k => k.quiet (State.shown_traffic _ _ _ _ _))
    (fun _ _ _ _ _ k => k.quiet (State.posted_traffic _ _ _ _ _)) (fun _ k => k.trans (.of_move (.reset _)))
    (fun _ k => k.leads w)

/-- A step is a chain of moves. -/
theorem step_leads (w : s.WithinGeometry) (h : step s = .next t) : s.Leads none t := by
  rcases step_cases h with rfl | ⟨c, rest, -, hx⟩
  · exact .refl _ none
  · have queue : ({ s with pending := rest } : State).traffic = s.traffic := rfl
    have w' : ({ s with pending := rest } : State).WithinGeometry := { w with }
    exact (State.Leads.of_traffic queue).trans ((State.steps_of_exec hx).leads w')

end

end Sys2Proof.Machine
end

section
/-! Every move keeps the slots, lengths and pointers of the part within the geometry; so does every step, and no step stops. -/

namespace Sys2Proof.Machine

/-! ### Reading the traffic -/

theorem State.current?_eq_some {s : State} {ch : ChannelId} {i : SlotId} :
    s.current? ch = some i ↔ ∃ d, (s.channels.get ch).defn = some d ∧ d.current = some i := by
  simp [State.current?, Option.bind_eq_some_iff]

/-- The message a slot record carries. -/
def Slot.message? (r : Slot) : Option Message :=
  match r.use with
  | .message m => some m
  | .free => none
  | .filling _ _ => none

theorem Slot.message?_eq_some {r : Slot} {m : Message} : r.message? = some m ↔ r.use = .message m := by
  unfold Slot.message?
  split <;> simp_all

theorem State.message?_eq (s : State) (i : SlotId) : s.message? i = (s.slots.get i).message? := rfl

/-- The message of slot `i` after a change of record `j`. -/
theorem State.message?_updSlot (s : State) (i j : SlotId) (f : Slot → Slot) :
    (s.updSlot j f).message? i = if i = j then (f (s.slots.get j)).message? else s.message? i := by
  rw [State.message?_eq, State.updSlot_slots, Table.get_modify]
  split <;> rfl

/-- A change of a slot's count alone leaves the messages. -/
theorem State.message?_updSlot_refs (s : State) (i j : SlotId) (f : Slot → Slot) (h : ∀ r, (f r).use = r.use) :
    (s.updSlot j f).message? i = s.message? i := by
  rw [State.message?_updSlot]
  split
  · next e =>
    rw [e, State.message?_eq]
    unfold Slot.message?
    rw [h]
  · rfl

theorem State.message?_addRef (s : State) (i j : SlotId) : (s.addRef j).message? i = s.message? i :=
  s.message?_updSlot_refs i j _ fun _ => rfl

/-- After a release a message is one from before it. -/
theorem State.message?_of_release {s : State} {i j : SlotId} {m : Message} (h : (s.release j).message? i = some m) :
    s.message? i = some m := by
  rw [State.message?_eq_some] at h ⊢
  rcases s.release_use j i with e | ⟨-, e⟩
  · rwa [e] at h
  · rw [e] at h
    cases h

/-- After a tick a message is one from before it, its lifetime aside. -/
theorem Slot.tick_message {r : Slot} {m : Message} (h : r.tick.use = .message m) :
    ∃ n, r.use = .message n ∧ m = { n with lifetime := lowered n.lifetime } := by
  unfold Slot.tick at h
  split at h
  · next n hn =>
    cases h
    exact ⟨n, hn, rfl⟩
  · next hf => simp [hf] at h
  · next hf => simp [hf] at h

/-- After settling a message is one from before it, its phase aside. -/
theorem Slot.settle_message {r : Slot} {m : Message} (h : r.settle.use = .message m) :
    ∃ n, r.use = .message n ∧ m.length = n.length ∧ m.channel = n.channel := by
  rcases r.settle_eq with ⟨n, hn, -, e⟩ | ⟨-, e⟩
  · rw [e] at h
    cases h
    exact ⟨n, hn, rfl, rfl⟩
  · exact ⟨m, e ▸ h, rfl, rfl⟩

/-! ### The geometry's invariant along moves -/

/-- Equal traffic is equal in each of its parts. -/
theorem State.traffic_eq {s t : State} (h : t.traffic = s.traffic) :
    t.geometry = s.geometry ∧ t.slots = s.slots ∧ t.freeList = s.freeList ∧ t.reservations = s.reservations ∧
    t.publishQueue = s.publishQueue ∧ t.engine = s.engine ∧ t.queues = s.queues ∧ t.holds = s.holds ∧
    (∀ ch, t.current? ch = s.current? ch) ∧ (∀ p, (t.windows.get p).fillPointer = (s.windows.get p).fillPointer) ∧
    (∀ p, (t.ports.get p).account = (s.ports.get p).account) ∧ t.device.state = s.device.state := by
  simpa [State.traffic, funext_iff] using h

section
variable {s t : State}

/-- The invariant depends on the traffic alone. -/
theorem State.WithinGeometry.congr (h : s.WithinGeometry) (e : t.traffic = s.traffic) : t.WithinGeometry := by
  obtain ⟨geometry, slots, freeList, reservations, publishQueue, engine, queues, holds, current, fillPointer, -, device⟩ :=
    State.traffic_eq e
  have message := State.message?_congr slots
  have value : ∀ ch d i, (t.channels.get ch).defn = some d → d.current = some i →
      ∃ d, (s.channels.get ch).defn = some d ∧ d.current = some i := fun ch d i hd hi =>
    State.current?_eq_some.1 (current ch ▸ State.current?_eq_some.2 ⟨d, hd, hi⟩)
  constructor
  case current =>
    intro ch d i hd hi
    obtain ⟨d', hd', hi'⟩ := value ch d i hd hi
    rw [geometry]
    exact h.current ch d' i hd' hi'
  case configCurrent =>
    intro hc ch d hd
    rw [device] at hc
    cases hi : d.current with
    | none => rfl
    | some i =>
      obtain ⟨d', hd', hi'⟩ := value ch d i hd hi
      exact absurd (h.configCurrent hc ch d' hd') (by simp [hi'])
  all_goals simp only [geometry, freeList, reservations, publishQueue, engine, queues, holds, message, fillPointer, device]
  · exact h.free
  · exact h.reservation
  · exact h.message
  · exact h.request
  · exact h.spreading
  · exact h.entry
  · exact h.held
  · exact h.readPointer
  · exact h.fillPointer
  · exact h.fillPointerIdle
  · exact h.configReservation
  · exact h.configMessage
  · exact h.configRequest
  · exact h.configEngine
  · exact h.configQueue
  · exact h.configHold

/-- Records that hold no message but those held before, none longer, keep the invariant. -/
theorem State.WithinGeometry.of_messages (h : s.WithinGeometry) (slots : Table Slot 256)
    (message : ∀ i m, ({ s with slots := slots } : State).message? i = some m →
      ∃ n, s.message? i = some n ∧ m.length ≤ n.length) : ({ s with slots := slots } : State).WithinGeometry :=
  { h with
    message := fun i m hm => by
      obtain ⟨n, hn, hl⟩ := message i m hm
      exact ⟨(h.message i n hn).1, hl.trans (h.message i n hn).2⟩
    configMessage := fun hc i => by
      cases hm : ({ s with slots := slots } : State).message? i with
      | none => rfl
      | some m =>
        obtain ⟨n, hn, -⟩ := message i m hm
        rw [h.configMessage hc i] at hn
        cases hn }

theorem State.WithinGeometry.addRef (h : s.WithinGeometry) (i : SlotId) : (s.addRef i).WithinGeometry :=
  h.of_messages (s.addRef i).slots fun j m hm => ⟨m, (s.message?_addRef j i).symm.trans hm, le_rfl⟩

/-- A port's queue of entries that fit, none of them in CONFIG. -/
theorem State.WithinGeometry.setQueue (h : s.WithinGeometry) (p : Port) {q : List Entry}
    (fit : ∀ e ∈ q, e.slot.val < s.geometry.slotCount ∧ e.length ≤ s.geometry.slotSize)
    (config : s.device.state = .config → q = []) : (s.setQueue p q).WithinGeometry :=
  { h with
    entry := fun x e he => by
      rw [State.setQueue_queues, PerPort.get_set] at he
      split at he
      · exact fit e he
      · exact h.entry x e he
    configQueue := fun hc x => by
      rw [State.setQueue_queues, PerPort.get_set]
      split
      · exact config hc
      · exact h.configQueue hc x }

/-- A shorter queue. -/
theorem State.WithinGeometry.setQueue_sub (h : s.WithinGeometry) (p : Port) {q : List Entry}
    (sub : ∀ e ∈ q, e ∈ s.queues.get p) : (s.setQueue p q).WithinGeometry :=
  h.setQueue p (fun e he => h.entry p e (sub e he)) fun hc =>
    List.eq_nil_iff_forall_not_mem.2 fun e he => by simpa [h.configQueue hc p] using sub e he

/-- A port's hold that fits, none in CONFIG. -/
theorem State.WithinGeometry.setHold (h : s.WithinGeometry) (p : Port) {x : Option Hold}
    (fit : ∀ y, x = some y → y.entry.slot.val < s.geometry.slotCount ∧ y.entry.length ≤ s.geometry.slotSize)
    (pointer : ∀ y, x = some y → y.pointer % 2 = 0 ∧ y.pointer ≤ s.geometry.slotSize)
    (config : s.device.state = .config → x = none) : (s.setHold p x).WithinGeometry :=
  { h with
    held := fun q y hy => by
      rw [State.setHold_holds, PerPort.get_set] at hy
      split at hy
      · exact fit y hy
      · exact h.held q y hy
    readPointer := fun q y hy => by
      rw [State.setHold_holds, PerPort.get_set] at hy
      split at hy
      · exact pointer y hy
      · exact h.readPointer q y hy
    configHold := fun hc q => by
      rw [State.setHold_holds, PerPort.get_set]
      split
      · exact config hc
      · exact h.configHold hc q }

/-- A reservation given up, its fill pointer 0. -/
theorem State.WithinGeometry.dropReservation (h : s.WithinGeometry) (p : Port) : (s.dropReservation p).WithinGeometry := by
  have reserved : ∀ q, (s.dropReservation p).reservations.get q = if q = p then none else s.reservations.get q := fun q =>
    PerPort.get_set _ p q none
  have pointer : ∀ q, ((s.dropReservation p).windows.get q).fillPointer =
      if q = p then 0 else (s.windows.get q).fillPointer := fun q => by
    rw [show (s.dropReservation p).windows = s.windows.modify p fun w => { w with fillPointer := 0 } from rfl, PerPort.get_modify]
    split <;> rfl
  exact { h with
    reservation := fun q i hi => by
      rw [reserved] at hi
      split at hi
      · cases hi
      · exact h.reservation q i hi
    fillPointer := fun q => by
      rw [pointer]
      split
      · exact ⟨rfl, Nat.zero_le _⟩
      · exact h.fillPointer q
    fillPointerIdle := fun q hq => by
      rw [reserved] at hq
      rw [pointer]
      split
      · rfl
      · next hn => exact h.fillPointerIdle q (by rwa [if_neg hn] at hq)
    configReservation := fun hc q => by
      rw [reserved]
      split
      · rfl
      · exact h.configReservation hc q }

/-- A publish queue whose requests name slots of the geometry, empty in CONFIG. -/
theorem State.WithinGeometry.setRequests (h : s.WithinGeometry) {q : List Request}
    (fit : ∀ r ∈ q, r.slot.val < s.geometry.slotCount) (config : s.device.state = .config → q = []) :
    ({ s with publishQueue := q } : State).WithinGeometry := { h with request := fit, configRequest := config }

/-- An engine whose request names a slot of the geometry, idle in CONFIG. -/
theorem State.WithinGeometry.setEngine (h : s.WithinGeometry) {x : Option FanOut}
    (fit : ∀ f, x = some f → f.request.slot.val < s.geometry.slotCount) (config : s.device.state = .config → x = none) :
    ({ s with engine := x } : State).WithinGeometry := { h with spreading := fit, configEngine := config }

/-- A channel whose current value, if it has one, is a slot of the geometry, and none in CONFIG. -/
theorem State.WithinGeometry.updChannel (h : s.WithinGeometry) (ch : ChannelId) {g : Channel → Channel}
    (fit : ∀ d i, (g (s.channels.get ch)).defn = some d → d.current = some i →
      i.val < s.geometry.slotCount ∧ s.device.state ≠ .config) : (s.updChannel ch g).WithinGeometry :=
  { h with
    current := fun c d i hd hi => by
      rw [State.updChannel_channels, Table.get_modify] at hd
      split at hd
      · exact (fit d i hd hi).1
      · exact h.current c d i hd hi
    configCurrent := fun hc c d hd => by
      rw [State.updChannel_channels, Table.get_modify] at hd
      split at hd
      · cases hi : d.current with
        | none => rfl
        | some i => exact absurd hc (fit d i hd hi).2
      · exact h.configCurrent hc c d hd }

theorem State.WithinGeometry.release (h : s.WithinGeometry) {i : SlotId} (hi : i.val < s.geometry.slotCount) :
    (s.release i).WithinGeometry := by
  unfold State.release
  split
  · have free : ∀ j ∈ s.freeList ++ [i], j.val < s.geometry.slotCount := fun j hj => by
      rcases List.mem_append.1 hj with hj | hj
      · exact h.free j hj
      · rwa [List.mem_singleton.1 hj]
    have messages := h.of_messages (s.slots.set i Slot.free) fun j m hm => ⟨m, by
      rw [State.message?_eq_some] at hm ⊢
      rw [Table.get_set] at hm
      split at hm
      · cases hm
      · exact hm, le_rfl⟩
    exact { messages with free := free }
  · exact h.of_messages _ fun j m hm => ⟨m, (s.message?_updSlot_refs j i (fun r => { r with refs := r.refs - 1 })
      fun _ => rfl).symm.trans hm, le_rfl⟩

end

end Sys2Proof.Machine
end

section
namespace Sys2Proof.Machine

/-! ### Every move keeps the geometry's invariant -/

/-- The state of a ledger and its owed slots are within the geometry. -/
structure Ledger.Within (l : Ledger) : Prop where
  state : l.state.WithinGeometry
  owed : ∀ i ∈ l.owed, i.val < l.state.geometry.slotCount

/-- What has no slots in use, no holders and no pointers set is within the geometry. -/
theorem State.withinGeometry_of_empty {s : State} (free : ∀ i ∈ s.freeList, i.val < s.geometry.slotCount)
    (slots : ∀ i, (s.slots.get i).use = .free) (reservations : ∀ p, s.reservations.get p = none)
    (requests : s.publishQueue = []) (engine : s.engine = none) (queues : ∀ p, s.queues.get p = [])
    (holds : ∀ p, s.holds.get p = none) (current : ∀ ch, s.current? ch = none)
    (fillPointer : ∀ p, (s.windows.get p).fillPointer = 0) : s.WithinGeometry := by
  have message : ∀ i, s.message? i = none := fun i => State.message?_eq_none_of_free (slots i)
  have value : ∀ ch d, (s.channels.get ch).defn = some d → d.current = none := fun ch d hd => by
    simpa [State.current?, hd] using current ch
  constructor
  case free => exact free
  case current =>
    intro ch d i hd hi
    rw [value ch d hd] at hi
    cases hi
  case configCurrent => exact fun _ => value
  all_goals simp [reservations, requests, engine, queues, holds, message, fillPointer]

/-- A device reset leaves no traffic. -/
theorem Channel.deviceReset_current (c : Channel) : (c.deviceReset.defn.bind fun d => d.current) = none := by
  unfold Channel.deviceReset
  cases c.defn with
  | none => rfl
  | some d =>
    simp only [Option.bind_some, ChannelDef.deviceReset]
    split <;> rfl

theorem State.deviceReset_current? (s : State) (ch : ChannelId) : s.deviceReset.current? ch = none := by
  have e : s.deviceReset.channels.get ch = (s.channels.get ch).deviceReset := Table.get_map _ _ ch
  rw [State.current?, e, Channel.deviceReset_current]

theorem State.deviceReset_slots (s : State) (i : SlotId) : s.deviceReset.slots.get i = Slot.free := Table.get_replicate _ i

theorem State.deviceReset_within (s : State) : s.deviceReset.WithinGeometry :=
  State.withinGeometry_of_empty (fun _ h => mem_slotsBelow.1 h) (fun i => by rw [State.deviceReset_slots]; rfl)
    (fun p => PerPort.get_all _ p) rfl rfl (fun p => PerPort.get_all _ p) (fun p => PerPort.get_all _ p) s.deviceReset_current?
    fun p => by
      rw [show s.deviceReset.windows = s.windows.map Window.deviceReset from rfl, PerPort.get_map]
      rfl

theorem State.powerOn_current? (s : State) (ch : ChannelId) : s.powerOn.current? ch = none := by
  have e : s.powerOn.channels.get ch = Channel.powerOn := Table.get_replicate _ ch
  rw [State.current?, e]
  rfl

theorem State.powerOn_slots (s : State) (i : SlotId) : s.powerOn.slots.get i = Slot.free := Table.get_replicate _ i

theorem State.powerOn_within (s : State) : s.powerOn.WithinGeometry :=
  State.withinGeometry_of_empty (fun _ h => mem_slotsBelow.1 h) (fun i => by rw [State.powerOn_slots]; rfl)
    (fun p => PerPort.get_all _ p) rfl rfl (fun p => PerPort.get_all _ p) (fun p => PerPort.get_all _ p) s.powerOn_current?
    fun p => congrArg Window.fillPointer (PerPort.get_all _ p)

section
variable {s : State}

/-- In CONFIG no channel has a current value. -/
theorem State.WithinGeometry.current?_of_config (h : s.WithinGeometry) (config : s.device.state = .config) (ch : ChannelId) :
    s.current? ch = none := by
  cases hv : s.current? ch with
  | none => rfl
  | some i =>
    obtain ⟨d, hd, hi⟩ := State.current?_eq_some.1 hv
    cases hi.symm.trans (h.configCurrent config ch d hd)

/-- In CONFIG the pool may be rebuilt: there is no traffic. -/
theorem State.WithinGeometry.withGeometry (h : s.WithinGeometry) (g : Geometry) (config : s.device.state = .config) :
    (s.withGeometry g).WithinGeometry := by
  refine State.withinGeometry_of_empty (fun _ h => mem_slotsBelow.1 h) (fun i => ?_) (h.configReservation config)
    (h.configRequest config) (h.configEngine config) (h.configQueue config) (h.configHold config) (h.current?_of_config config)
    fun p => h.fillPointerIdle p (h.configReservation config p)
  rw [show (s.withGeometry g).slots.get i = Slot.free from Table.get_replicate _ i]
  rfl

/-- In CONFIG the engine is idle. -/
theorem State.WithinGeometry.run_of_engine (h : s.WithinGeometry) {f : FanOut} (e : s.engine = some f) :
    s.device.state ≠ .config := fun hc => by simp [h.configEngine hc] at e

/-- The record that a port reserves holds no message. -/
theorem State.WithinGeometry.reserveSlot (h : s.WithinGeometry) {p : Port} {ch : ChannelId} {i : SlotId}
    {rest : List SlotId} (run : s.device.state = .run) (head : s.freeList = i :: rest) :
    (s.reserveSlot p ch i rest).WithinGeometry := by
  have listed : ∀ j ∈ i :: rest, j.val < s.geometry.slotCount := head ▸ h.free
  have messages := h.of_messages (s.slots.set i { use := .filling ch p, refs := 1 }) fun j m hm => ⟨m, by
    rw [State.message?_eq_some] at hm ⊢
    rw [Table.get_set] at hm
    split at hm
    · cases hm
    · exact hm, le_rfl⟩
  have pointer : ∀ q, ((s.windows.modify p fun w => { w with fillPointer := 0 }).get q).fillPointer =
      if q = p then 0 else (s.windows.get q).fillPointer := fun q => by
    rw [PerPort.get_modify]
    split <;> rfl
  exact { messages with
    free := fun j hj => listed j (List.mem_cons_of_mem _ hj)
    reservation := fun q j hj => by
      rw [show (s.reserveSlot p ch i rest).reservations = s.reservations.set p (some i) from rfl, PerPort.get_set] at hj
      split at hj
      · cases hj
        exact listed _ (List.mem_cons_self ..)
      · exact h.reservation q j hj
    fillPointer := fun q => by
      refine (pointer q).symm ▸ ?_
      split
      · exact ⟨rfl, Nat.zero_le _⟩
      · exact h.fillPointer q
    fillPointerIdle := fun q hq => by
      rw [show (s.reserveSlot p ch i rest).reservations = s.reservations.set p (some i) from rfl, PerPort.get_set] at hq
      refine (pointer q).trans ?_
      split
      · rfl
      · next hn => exact h.fillPointerIdle q (by rwa [if_neg hn] at hq)
    configReservation := fun hc => absurd (run.symm.trans hc) (by decide) }

end

end Sys2Proof.Machine
end

section
namespace Sys2Proof.Machine

section
variable {s : State}

/-- A change of one record that makes no message, nor lengthens one. -/
theorem State.WithinGeometry.updSlot (h : s.WithinGeometry) (i : SlotId) {f : Slot → Slot}
    (message : ∀ m, (f (s.slots.get i)).use = .message m →
      ∃ n, (s.slots.get i).use = .message n ∧ m.length ≤ n.length) : (s.updSlot i f).WithinGeometry :=
  h.of_messages (s.updSlot i f).slots fun j m hm => by
    have hm : (s.updSlot i f).message? j = some m := hm
    rw [State.message?_updSlot] at hm
    split at hm
    · next e =>
      obtain ⟨n, hn, hl⟩ := message m (Slot.message?_eq_some.1 hm)
      exact ⟨n, State.message?_eq_some.2 (e ▸ hn), hl⟩
    · exact ⟨m, hm, le_rfl⟩

/-- A record of the geometry takes up a message that fits it, in RUN. -/
theorem State.WithinGeometry.setMessage (h : s.WithinGeometry) {i : SlotId} {f : Slot → Slot} {m : Message}
    (made : (f (s.slots.get i)).use = .message m) (hi : i.val < s.geometry.slotCount) (fits : m.length ≤ s.geometry.slotSize)
    (run : s.device.state ≠ .config) : (s.updSlot i f).WithinGeometry :=
  { h with
    message := fun j n hn => by
      rw [State.message?_updSlot] at hn
      split at hn
      · next e =>
        rw [Slot.message?_eq_some, made] at hn
        cases hn
        exact ⟨e ▸ hi, fits⟩
      · exact h.message j n hn
    configMessage := fun hc => absurd hc run }

/-- A reservation that PUBLISH may take names a FILLING slot of the geometry (R10). -/
theorem State.reservation?_eq_some {p q : Port} {i : SlotId} {ch : ChannelId} (h : s.reservation? p = some (i, ch, q)) :
    s.reservations.get p = some i ∧ (s.slots.get i).use = .filling ch q := by
  unfold State.reservation? at h
  split at h
  · cases h
  next j hj =>
  split at h
  · next hu =>
    cases h
    exact ⟨hj, hu⟩
  · cases h
  · cases h

theorem State.WithinGeometry.acceptPublish (h : s.WithinGeometry) {p q : Port} {i : SlotId} {ch : ChannelId} {d : ChannelDef}
    {a : Words6} (run : s.device.state = .run) (reserved : s.reservation? p = some (i, ch, q))
    (length : a.w0.toNat ≤ s.geometry.slotSize) : (s.acceptPublish p i ch q d a).WithinGeometry := by
  have hi := h.reservation p i (State.reservation?_eq_some reserved).1
  have notConfig : s.device.state ≠ .config := by simp [run]
  have counted := h.congr (s.updChannel_traffic ch (f := fun c => { c with seq := (s.channels.get ch).seq + 1 }) rfl)
  have pending := counted.setMessage (i := i)
    (f := fun r =>
      { r with
        use := .message
          { phase := .pending, channel := ch, account := q, seq := (s.channels.get ch).seq + 1, tag := a.w1,
            length := a.w0.toNat, lifetime := countdown d.lifetime } }) rfl hi length notConfig
  have charged := pending.congr (State.updPort_traffic _ p (f := fun r => { r with credits := r.credits - 1 }) rfl)
  have queued := charged.setRequests (q := s.publishQueue ++ [{ slot := i, publisher := p, orphaned := false }])
    (fun r hr => by
      rcases List.mem_append.1 hr with hr | hr
      · exact h.request r hr
      · rw [List.mem_singleton.1 hr]
        exact hi) fun hc => absurd hc notConfig
  exact queued.dropReservation p

theorem State.WithinGeometry.takeHead (h : s.WithinGeometry) {r : Request} {rest : List Request}
    (head : s.publishQueue = r :: rest) : (s.takeHead r rest).WithinGeometry := by
  have fit : ∀ x ∈ r :: rest, x.slot.val < s.geometry.slotCount := head ▸ h.request
  have run : s.device.state ≠ .config := fun hc => by simp [h.configRequest hc] at head
  have taken := (h.setRequests (q := rest) (fun x hx => fit x (List.mem_cons_of_mem _ hx)) fun hc => absurd hc run).setEngine
    (x := some { request := r, cursor := .visit .A, counts := Counts.zero, expired := false })
    (fun f hf => by
      cases hf
      exact fit r (List.mem_cons_self ..)) fun hc => absurd hc run
  refine taken.updSlot r.slot fun m hm => ?_
  cases hu : (s.slots.get r.slot).use with
  | message n =>
    rw [Slot.withPhase_message hu] at hm
    cases hm
    exact ⟨n, rfl, le_rfl⟩
  | free => simp [Slot.withPhase, hu] at hm
  | filling _ _ => simp [Slot.withPhase, hu] at hm

theorem State.WithinGeometry.install (h : s.WithinGeometry) {i : SlotId} {ch : ChannelId} (hi : i.val < s.geometry.slotCount)
    (run : s.device.state ≠ .config) : ((s.addRef i).updDefn ch fun e => { e with current := some i }).WithinGeometry :=
  (h.addRef i).updChannel ch fun d j hd hj => by
    obtain ⟨x, -, rfl⟩ := Option.map_eq_some_iff.1 hd
    cases hj
    exact ⟨hi, run⟩

theorem State.WithinGeometry.place (h : s.WithinGeometry) {p : Port} {e : Entry} (slot : e.slot.val < s.geometry.slotCount)
    (length : e.length ≤ s.geometry.slotSize) (run : s.device.state ≠ .config) : (s.place p e).WithinGeometry := by
  have queued := h.setQueue p (q := s.queues.get p ++ [e])
    (fun x hx => by
      rcases List.mem_append.1 hx with hx | hx
      · exact h.entry p x hx
      · rw [List.mem_singleton.1 hx]
        exact ⟨slot, length⟩) fun hc => absurd hc run
  exact (queued.addRef e.slot).congr (State.raise_traffic _ p .queue)

theorem State.WithinGeometry.pullOldest (h : s.WithinGeometry) (p : Port) (f : Entry → Bool) : (s.pullOldest p f).WithinGeometry :=
  h.setQueue_sub p fun _ he => List.mem_of_mem_eraseP he

/-- Orphaning a request keeps its slot. -/
theorem Request.orphan_slot (p : Port) (r : Request) : (r.orphan p).slot = r.slot := by
  unfold Request.orphan
  split <;> rfl

theorem State.WithinGeometry.orphanPublishes (h : s.WithinGeometry) (p : Port) : (s.orphanPublishes p).WithinGeometry := by
  have queued := h.setRequests (q := s.publishQueue.map (Request.orphan p))
    (fun r hr => by
      obtain ⟨x, hx, rfl⟩ := List.mem_map.1 hr
      rw [Request.orphan_slot]
      exact h.request x hx) fun hc => by rw [h.configRequest hc]; rfl
  have engine := queued.setEngine (x := s.engine.map fun f => { f with request := f.request.orphan p })
    (fun f hf => by
      obtain ⟨g, hg, rfl⟩ := Option.map_eq_some_iff.1 hf
      exact (g.request.orphan_slot p).symm ▸ h.spreading g hg) fun hc => by rw [h.configEngine hc]; rfl
  exact engine.congr (State.updPort_traffic
    { s with
      publishQueue := s.publishQueue.map (Request.orphan p)
      engine := s.engine.map fun f => { f with request := f.request.orphan p }
      completions := s.completions.set p [] } p (f := fun r => { r with credits := Config.credits }) rfl)

theorem State.WithinGeometry.markExpired (h : s.WithinGeometry) (i : SlotId) : (s.markExpired i).WithinGeometry :=
  h.setEngine
    (fun f hf => by
      obtain ⟨g, hg, rfl⟩ := Option.map_eq_some_iff.1 hf
      split <;> exact h.spreading g hg) fun hc => by rw [h.configEngine hc]; rfl

theorem State.WithinGeometry.advance (h : s.WithinGeometry) {f : FanOut} (p : Port) (n : Counts) (e : s.engine = some f) :
    (s.advance f p n).WithinGeometry :=
  h.setEngine
    (fun g hg => by
      cases hg
      exact h.spreading f e) fun hc => absurd hc (h.run_of_engine e)

theorem State.WithinGeometry.finish (h : s.WithinGeometry) (i : SlotId) :
    ({ s.updSlot i Slot.settle with engine := none } : State).WithinGeometry := by
  refine (h.updSlot i fun m hm => ?_).setEngine (fun f hf => by cases hf) fun _ => rfl
  obtain ⟨n, hn, hl, -⟩ := Slot.settle_message hm
  exact ⟨n, hn, hl.le⟩

theorem State.WithinGeometry.tick (h : s.WithinGeometry) : ({ s with slots := s.slots.map Slot.tick } : State).WithinGeometry :=
  h.of_messages _ fun i m hm => by
    rw [State.message?_eq_some, Table.get_map] at hm
    obtain ⟨n, hn, rfl⟩ := Slot.tick_message hm
    exact ⟨n, State.message?_eq_some.2 hn, le_rfl⟩

/-- A fill pointer of a reservation moves within the slot. -/
theorem State.WithinGeometry.fillTo (h : s.WithinGeometry) {p : Port} {i : SlotId} {k : Nat}
    (reserved : s.reservations.get p = some i) (range : k % 2 = 0 ∧ k ≤ s.geometry.slotSize) :
    (s.updWindow p fun w => { w with fillPointer := k }).WithinGeometry := by
  have pointer : ∀ q, ((s.windows.modify p fun w => { w with fillPointer := k }).get q).fillPointer =
      if q = p then k else (s.windows.get q).fillPointer := fun q => by
    rw [PerPort.get_modify]
    split <;> rfl
  exact { h with
    fillPointer := fun q => by
      refine (pointer q).symm ▸ ?_
      split
      · exact range
      · exact h.fillPointer q
    fillPointerIdle := fun q hq => by
      refine (pointer q).trans ?_
      split
      · next e =>
        rw [e] at hq
        cases reserved.symm.trans hq
      · exact h.fillPointerIdle q hq }

end

/-- Every move keeps the part within the geometry. -/
theorem Move.within {l k : Ledger} (move : Move l k) (h : l.Within) : k.Within := by
  obtain ⟨w, o⟩ := h
  cases move
  case quiet s t _ _ same => exact ⟨w.congr same, (State.traffic_eq same).1 ▸ o⟩
  case release s i rest d =>
    refine ⟨w.release (o i (List.mem_cons_self ..)), fun j hj => ?_⟩
    simpa using o j (List.mem_cons_of_mem _ hj)
  case forget => exact ⟨w, fun j hj => o j (List.mem_cons_of_mem _ hj)⟩
  case idle s p _ => exact ⟨w.dropReservation p, by simp⟩
  case unreserve s p i reserved => exact ⟨w.dropReservation p, by simpa using w.reservation p i reserved⟩
  case unqueue s p f d =>
    refine ⟨w.setQueue_sub p fun e he => List.mem_of_mem_filter he, fun i hi => ?_⟩
    obtain ⟨e, he, rfl⟩ := List.mem_map.1 hi
    exact (w.entry p e (List.mem_of_mem_filter he)).1
  case pull s p f e oldest =>
    exact ⟨w.pullOldest p f, by simpa using (w.entry p e (List.mem_of_find?_eq_some oldest)).1⟩
  case unhold s p x held =>
    exact ⟨w.setHold p (fun _ h => by cases h) (fun _ h => by cases h) fun _ => rfl, by simpa using (w.held p x held).1⟩
  case unrequest s f =>
    refine ⟨w.setRequests (fun r hr => w.request r (List.mem_of_mem_filter hr)) fun hc => by rw [w.configRequest hc]; rfl,
      fun i hi => ?_⟩
    obtain ⟨r, hr, rfl⟩ := List.mem_map.1 hi
    exact w.request r (List.mem_of_mem_filter hr)
  case uncurrent s ch i g d current gone =>
    obtain ⟨x, hx, hi⟩ := State.current?_eq_some.1 current
    refine ⟨w.updChannel ch fun y j hy hj => ?_, by simpa using w.current ch x i hx hi⟩
    rw [hy] at gone
    cases hj.symm.trans gone
  case orphan s p => exact ⟨w.orphanPublishes p, by simp⟩
  case tick s => exact ⟨w.tick, by simp⟩
  case mark s i => exact ⟨w.markExpired i, by simp⟩
  case expire s i m message _ =>
    refine ⟨w.updSlot i fun n hn => ?_, by simp⟩
    cases hn
    exact ⟨m, State.message?_eq_some.1 message, le_rfl⟩
  case buried => exact ⟨w, by simp⟩
  case reserve s p ch i rest run _ head => exact ⟨w.reserveSlot run head, by simp⟩
  case publish s p i ch q d a run reserved length => exact ⟨w.acceptPublish run reserved length, by simp⟩
  case spread s r rest m _ head _ => exact ⟨w.takeHead head, by simp⟩
  case install s f m d spreading _ message _ =>
    refine ⟨w.install (w.spreading f spreading) (w.run_of_engine spreading), fun j hj => ?_⟩
    obtain ⟨x, hx, hj⟩ := State.current?_eq_some.1 (Option.mem_toList.1 hj)
    exact w.current m.channel x j hx hj
  case place s f p e spreading _ slot length =>
    exact ⟨w.place (slot ▸ w.spreading f spreading) length (w.run_of_engine spreading), by simp⟩
  case advance s f p n spreading _ => exact ⟨w.advance p n spreading, by simp⟩
  case finish s f spreading => exact ⟨w.finish f.request.slot, by simpa using w.spreading f spreading⟩
  case take s p f e run _ oldest =>
    refine ⟨(w.pullOldest p f).setHold p (fun y hy => ?_) (fun y hy => ?_) fun hc => absurd (run.symm.trans hc) (by decide),
      by simp⟩ <;> cases hy
    · exact w.entry p e (List.mem_of_find?_eq_some oldest)
    · exact ⟨rfl, Nat.zero_le _⟩
  case read s p ch i m run _ current message =>
    refine ⟨(w.addRef i).setHold p (fun y hy => ?_) (fun y hy => ?_) fun hc => absurd (run.symm.trans hc) (by decide),
      by simp⟩ <;> cases hy
    · exact w.message i m message
    · exact ⟨rfl, Nat.zero_le _⟩
  case fillTo s p i k reserved range => exact ⟨w.fillTo reserved range, by simp⟩
  case readTo s p x k held range =>
    refine ⟨w.setHold p (fun y hy => ?_) (fun y hy => ?_) fun hc => by simp [w.configHold hc] at held, by simp⟩ <;> cases hy
    · exact w.held p x held
    · exact range
  case start s =>
    exact ⟨{ w with
      configReservation := fun hc => by cases hc
      configMessage := fun hc => by cases hc
      configRequest := fun hc => by cases hc
      configEngine := fun hc => by cases hc
      configQueue := fun hc => by cases hc
      configHold := fun hc => by cases hc
      configCurrent := fun hc => by cases hc }, by simp⟩
  case rebuild s g config => exact ⟨w.withGeometry g config, by simp⟩
  case reset s => exact ⟨s.deviceReset_within, by simp⟩
  case powerOn s => exact ⟨s.powerOn_within, by simp⟩

/-- Chains of moves keep the part within the geometry. -/
theorem Move.chain_within {l k : Ledger} (chain : Relation.ReflTransGen Move l k) (h : l.Within) : k.Within := by
  induction chain with
  | refl => exact h
  | tail _ move ih => exact move.within ih

theorem State.Leads.within {s t : State} {d} (h : s.Leads d t) (w : s.WithinGeometry) : t.WithinGeometry :=
  (Move.chain_within h ⟨w, by simp⟩).state

/-- Settles O58: a step is a chain of moves, and every move keeps the invariant. -/
theorem everyStepKeepsWithinTheGeometry : Obligations.EveryStepKeepsWithinTheGeometry :=
  fun _ _ w h => (step_leads w h).within w

/-! ### No step stops (R1) -/

/-- Within the geometry the model does not stop: the pointers are even, so the byte after one below the slot size is the slot's. -/
theorem State.Stops.false {s : State} {i : Instr} (h : s.Stops i) (w : s.WithinGeometry) : False := by
  cases h with
  | fill p j x _ _ reserved below outside =>
    exact absurd (s.geometry.word_inside (w.reservation p j reserved) below (w.fillPointer p).1) (Nat.not_lt.2 outside)
  | read p x held below outside =>
    have below' := Nat.lt_of_lt_of_le below (w.held p x held).2
    exact absurd (s.geometry.word_inside (w.held p x held).1 below' (w.readPointer p x held).1) (Nat.not_lt.2 outside)

/-- Settles O60: a row goes on or stops at the store's bound, which the geometry excludes. -/
theorem noStepStopsWithinTheGeometry : Obligations.NoStepStopsWithinTheGeometry := by
  intro s w
  unfold step
  split
  · exact ⟨s, rfl⟩
  next c rest _ =>
  rcases State.outcomes { s with pending := rest } c with ⟨t, ht, -⟩ | ⟨-, k⟩
  · exact ⟨t, ht⟩
  · exact (k.false { w with }).elim

end Sys2Proof.Machine
end

section
/-! The slot pool's books: how many hold each slot, and how a change of one record moves a count. -/

namespace Sys2Proof.Machine

/-! ### Sums and counts that change in one place -/

/-- A sum over a list without repetition, changed at one of its places. -/
theorem sum_map_update {α : Type} {l : List α} (nd : l.Nodup) {a : α} (ha : a ∈ l) {f g : α → Nat}
    (h : ∀ b ∈ l, b ≠ a → g b = f b) : (l.map g).sum + f a = (l.map f).sum + g a := by
  induction l with
  | nil => simp at ha
  | cons b l ih =>
    obtain ⟨hb, nd⟩ := List.nodup_cons.1 nd
    simp only [List.map_cons, List.sum_cons]
    rcases List.mem_cons.1 ha with rfl | ha
    · have e : l.map g = l.map f :=
        List.map_congr_left fun c hc => h c (List.mem_cons_of_mem _ hc) (ne_of_mem_of_not_mem hc hb)
      rw [e]
      omega
    · have e := h b (List.mem_cons_self ..) (ne_of_mem_of_not_mem ha hb).symm
      have := ih nd ha fun c hc => h c (List.mem_cons_of_mem _ hc)
      omega

theorem countP_eq_sum {α : Type} (l : List α) (f : α → Bool) : l.countP f = (l.map fun a => (f a).toNat).sum := by
  induction l with
  | nil => rfl
  | cons a l ih => cases h : f a <;> simp [h, ih, Nat.add_comm]

/-- A count over a list without repetition, changed at one of its places. -/
theorem countP_update {α : Type} {l : List α} (nd : l.Nodup) {a : α} (ha : a ∈ l) {f g : α → Bool}
    (h : ∀ b ∈ l, b ≠ a → g b = f b) : l.countP g + (f a).toNat = l.countP f + (g a).toNat := by
  rw [countP_eq_sum, countP_eq_sum]
  exact sum_map_update (f := fun a => (f a).toNat) (g := fun a => (g a).toNat) nd ha fun b hb hn => congrArg _ (h b hb hn)

/-- The oldest entry that matches, and the rest. -/
theorem countP_eraseP {α : Type} {l : List α} {f : α → Bool} {a : α} (h : l.find? f = some a) (g : α → Bool) :
    l.countP g = (l.eraseP f).countP g + (g a).toNat := by
  induction l with
  | nil => simp at h
  | cons b l ih =>
    cases hb : f b with
    | true =>
      rw [List.find?_cons_of_pos hb] at h
      cases h
      rw [List.eraseP_cons_of_pos hb, List.countP_cons]
      cases g a <;> simp
    | false =>
      rw [List.find?_cons_of_neg (by simp [hb])] at h
      rw [List.eraseP_cons_of_neg (by simp [hb]), List.countP_cons, List.countP_cons, ih h]
      omega

/-- How often a slot is named in a list that names slots. -/
theorem count_map_slot {α : Type} (l : List α) (slot : α → SlotId) (i : SlotId) :
    (l.map slot).count i = l.countP fun a => decide (slot a = i) := by
  rw [List.count, List.countP_map]
  exact List.countP_congr fun a _ => by simp

theorem Port.nodup_all : Port.all.Nodup := by decide

/-! ### Who holds a slot (R4) -/

/-- The reservations of slot `i`. -/
def State.reservedFor (s : State) (i : SlotId) : Nat := Port.all.countP fun p => decide (s.reservations.get p = some i)

/-- The requests of slot `i` in the publish queue. -/
def State.requestedFor (s : State) (i : SlotId) : Nat := s.publishQueue.countP fun r => decide (r.slot = i)

/-- The engine's request, if it is of slot `i`. -/
def State.spreadFor (s : State) (i : SlotId) : Nat := (s.engine.any fun f => decide (f.request.slot = i)).toNat

/-- The delivery entries of slot `i`. -/
def State.queuedFor (s : State) (i : SlotId) : Nat :=
  (Port.all.map fun p => (s.queues.get p).countP fun e => decide (e.slot = i)).sum

/-- The read holds of slot `i`. -/
def State.heldFor (s : State) (i : SlotId) : Nat :=
  Port.all.countP fun p => (s.holds.get p).any fun h => decide (h.entry.slot = i)

/-- The channels whose current value is slot `i`. -/
def State.currentFor (s : State) (i : SlotId) : Nat := (indices 32).countP fun ch => decide (s.current? ch = some i)

theorem State.holders_eq (s : State) (i : SlotId) :
    s.holders i = s.reservedFor i + s.requestedFor i + s.spreadFor i + s.queuedFor i + s.heldFor i + s.currentFor i := rfl

section
variable {s t : State}

/-- Holders depend on who names slots. -/
theorem State.holders_congr (reservations : t.reservations = s.reservations) (requests : t.publishQueue = s.publishQueue)
    (engine : t.engine = s.engine) (queues : t.queues = s.queues) (holds : t.holds = s.holds)
    (current : ∀ ch, t.current? ch = s.current? ch) (i : SlotId) : t.holders i = s.holders i := by
  simp only [State.holders_eq, State.reservedFor, State.requestedFor, State.spreadFor, State.queuedFor, State.heldFor,
    State.currentFor, reservations, requests, engine, queues, holds, current]

/-- A slot that nobody holds is named nowhere. -/
theorem State.holders_eq_zero {i : SlotId} :
    s.holders i = 0 ↔
      (∀ p, s.reservations.get p ≠ some i) ∧ (∀ r ∈ s.publishQueue, r.slot ≠ i) ∧
      (∀ f, s.engine = some f → f.request.slot ≠ i) ∧ (∀ p, ∀ e ∈ s.queues.get p, e.slot ≠ i) ∧
      (∀ p h, s.holds.get p = some h → h.entry.slot ≠ i) ∧ ∀ ch, s.current? ch ≠ some i := by
  have reserved : s.reservedFor i = 0 ↔ ∀ p, s.reservations.get p ≠ some i := by
    simp [State.reservedFor, List.countP_eq_zero, Port.mem_all]
  have requested : s.requestedFor i = 0 ↔ ∀ r ∈ s.publishQueue, r.slot ≠ i := by
    simp [State.requestedFor, List.countP_eq_zero]
  have spread : s.spreadFor i = 0 ↔ ∀ f, s.engine = some f → f.request.slot ≠ i := by
    unfold State.spreadFor
    cases s.engine <;> simp
  have queued : s.queuedFor i = 0 ↔ ∀ p, ∀ e ∈ s.queues.get p, e.slot ≠ i := by
    simp [State.queuedFor, List.sum_eq_zero_iff, List.countP_eq_zero, Port.mem_all]
  have held : s.heldFor i = 0 ↔ ∀ p h, s.holds.get p = some h → h.entry.slot ≠ i := by
    simp only [State.heldFor, List.countP_eq_zero, Port.mem_all, Option.any_eq_true, decide_eq_true_eq, true_imp_iff, not_exists, not_and]
  have current : s.currentFor i = 0 ↔ ∀ ch, s.current? ch ≠ some i := by
    simp [State.currentFor, List.countP_eq_zero]
  rw [State.holders_eq, ← reserved, ← requested, ← spread, ← queued, ← held, ← current]
  omega

/-- One reservation record changes. -/
theorem State.reservedFor_set {p : Port} {x : Option SlotId} (e : t.reservations = s.reservations.set p x) (i : SlotId) :
    t.reservedFor i + (decide (s.reservations.get p = some i)).toNat = s.reservedFor i + (decide (x = some i)).toNat := by
  have h := countP_update (f := fun q => decide (s.reservations.get q = some i))
    (g := fun q => decide (t.reservations.get q = some i)) Port.nodup_all p.mem_all fun q _ hq => by
      rw [e, PerPort.get_set_other _ _ hq]
  simpa only [State.reservedFor, e, PerPort.get_set_same] using h

/-- One delivery queue changes. -/
theorem State.queuedFor_set {p : Port} {x : List Entry} (e : t.queues = s.queues.set p x) (i : SlotId) :
    t.queuedFor i + ((s.queues.get p).countP fun e => decide (e.slot = i)) =
      s.queuedFor i + x.countP fun e => decide (e.slot = i) := by
  have h := sum_map_update (f := fun q => (s.queues.get q).countP fun e => decide (e.slot = i))
    (g := fun q => (t.queues.get q).countP fun e => decide (e.slot = i)) Port.nodup_all p.mem_all fun q _ hq => by
      rw [e, PerPort.get_set_other _ _ hq]
  simpa only [State.queuedFor, e, PerPort.get_set_same] using h

/-- One read hold changes. -/
theorem State.heldFor_set {p : Port} {x : Option Hold} (e : t.holds = s.holds.set p x) (i : SlotId) :
    t.heldFor i + ((s.holds.get p).any fun h => decide (h.entry.slot = i)).toNat =
      s.heldFor i + (x.any fun h => decide (h.entry.slot = i)).toNat := by
  have h := countP_update (f := fun q => (s.holds.get q).any fun h => decide (h.entry.slot = i))
    (g := fun q => (t.holds.get q).any fun h => decide (h.entry.slot = i)) Port.nodup_all p.mem_all fun q _ hq => by
      rw [e, PerPort.get_set_other _ _ hq]
  simpa only [State.heldFor, e, PerPort.get_set_same] using h

/-- One channel's current value changes. -/
theorem State.currentFor_update {ch : ChannelId} {x : Option SlotId}
    (e : ∀ c, t.current? c = if c = ch then x else s.current? c) (i : SlotId) :
    t.currentFor i + (decide (s.current? ch = some i)).toNat = s.currentFor i + (decide (x = some i)).toNat := by
  have h := countP_update (f := fun c => decide (s.current? c = some i)) (g := fun c => decide (t.current? c = some i))
    (nodup_indices 32) (mem_indices 32 ch) fun c _ hc => by rw [e, if_neg hc]
  simpa only [State.currentFor, e, if_true] using h

/-- The current values after a change of one channel. -/
theorem State.current?_updChannel (s : State) (ch c : ChannelId) (g : Channel → Channel) :
    (s.updChannel ch g).current? c = if c = ch then (g (s.channels.get ch)).defn.bind fun d => d.current else s.current? c := by
  simp only [State.current?, State.updChannel_channels, Table.get_modify]
  split <;> rfl

/-- The slots whose account is a port's, when one record changes. -/
theorem State.account_count_set (slots : Table Slot 256) (i : SlotId) (r : Slot) (p : Port) :
    ((indices 256).countP fun j => decide (((slots.set i r).get j).use.account? = some p)) +
        (decide ((slots.get i).use.account? = some p)).toNat =
      ((indices 256).countP fun j => decide ((slots.get j).use.account? = some p)) +
        (decide (r.use.account? = some p)).toNat := by
  have h := countP_update (f := fun j => decide ((slots.get j).use.account? = some p))
    (g := fun j => decide (((slots.set i r).get j).use.account? = some p)) (nodup_indices 256) (mem_indices 256 i)
    fun j _ hj => by rw [Table.get_set_other _ _ hj]
  simpa only [Table.get_set_same] using h

end

end Sys2Proof.Machine
end

section
/-! The pool's invariant between two moves, in three parts: what the free list and the accounts say of the slot records, how every
name of a slot fits its record, and the count of each slot. -/

namespace Sys2Proof.Machine

/-- What the free list and the accounts say of the slot records (R5, R7, R15). -/
structure State.Listed (s : State) : Prop where
  freeIsZero : ∀ i, (s.slots.get i).use = .free ↔ (s.slots.get i).refs = 0
  once : s.freeList.Nodup
  free : ∀ i : SlotId, i ∈ s.freeList ↔ i.val < s.geometry.slotCount ∧ (s.slots.get i).use = .free
  account : ∀ p, (s.ports.get p).account = (indices 256).countP fun i => decide ((s.slots.get i).use.account? = some p)

/-- The message of slot `i` may stand in a queue or be a current value: it is SPREADING or LIVE, or its expiry is under way. -/
def Ledger.Alive (l : Ledger) (i : SlotId) (m : Message) : Prop :=
  m.phase = .spreading ∨ m.phase = .live ∨ (m.phase = .expired ∧ l.dying = some (i, m.channel))

/-- The engine's slot is SPREADING, or EXPIRED with the fan-out marked and at its end (R51, R64). -/
def FanOut.fits (f : FanOut) (m : Message) : Prop :=
  m.phase = .spreading ∨ (m.phase = .expired ∧ f.expired = true ∧ f.cursor = .finish)

/-- Every name of a slot fits the slot's record, and every FILLING, PENDING or SPREADING slot is named, or owed (R10, R50, R51, R69,
R71, R84). -/
structure Ledger.Named (l : Ledger) : Prop where
  reservation : ∀ p i, l.state.reservations.get p = some i → ∃ ch, (l.state.slots.get i).use = .filling ch p
  reserved : ∀ i ch p, (l.state.slots.get i).use = .filling ch p → l.state.reservations.get p = some i ∨ i ∈ l.owed
  request : ∀ r ∈ l.state.publishQueue, ∃ m, (l.state.slots.get r.slot).use = .message m ∧ m.phase = .pending
  requested : ∀ i m, (l.state.slots.get i).use = .message m → m.phase = .pending →
    (∃ r ∈ l.state.publishQueue, r.slot = i) ∨ i ∈ l.owed
  onceQueued : (l.state.publishQueue.map fun r => r.slot).Nodup
  spreading : ∀ f, l.state.engine = some f → ∃ m, (l.state.slots.get f.request.slot).use = .message m ∧ f.fits m
  spread : ∀ i m, (l.state.slots.get i).use = .message m → m.phase = .spreading →
    ∃ f, l.state.engine = some f ∧ f.request.slot = i
  entry : ∀ p, ∀ e ∈ l.state.queues.get p, ∃ m, (l.state.slots.get e.slot).use = .message m ∧ l.Alive e.slot m
  hold : ∀ p h, l.state.holds.get p = some h →
    ∃ m, (l.state.slots.get h.entry.slot).use = .message m ∧ m.phase ≠ .pending
  current : ∀ ch i, l.state.current? ch = some i →
    ∃ m, (l.state.slots.get i).use = .message m ∧ l.Alive i m ∧ m.channel = ch

/-- Each slot's count is the number of its holders and of the releases it is owed (R4, R5). -/
def Ledger.Counted (l : Ledger) : Prop := ∀ i, (l.state.slots.get i).refs = l.state.holders i + l.owed.count i

/-- The pool's invariant between two moves. -/
structure Ledger.Balanced (l : Ledger) : Prop where
  listed : l.state.Listed
  named : l.Named
  counted : l.Counted

/-! ### Between moves nothing is owed: the pool is sound -/

theorem State.inPhase_iff {s : State} {i : SlotId} {f : MessagePhase → Bool} :
    s.inPhase i f ↔ ∃ m, (s.slots.get i).use = .message m ∧ f m.phase = true := by
  simp only [State.inPhase, State.message?_eq_some]

theorem State.PoolSound.balanced {s : State} (h : s.PoolSound) : Ledger.Balanced ⟨s, [], none⟩ where
  listed := ⟨h.freeIsZero, h.freeListOnce, h.freeListed, h.account⟩
  counted := fun i => h.counted i
  named :=
    { reservation := fun p i hi => (h.filling p i).1 hi
      reserved := fun i ch p hi => .inl ((h.filling p i).2 ⟨ch, hi⟩)
      request := fun r hr => by simpa [State.inPhase_iff] using h.pending r hr
      requested := fun i m hm hp => .inl (h.pendingQueued i (State.inPhase_iff.2 ⟨m, hm, decide_eq_true hp⟩))
      onceQueued := h.onceQueued
      spreading := fun f hf => by
        rcases h.spreading f hf with hs | ⟨hs, he, hc⟩ <;> obtain ⟨m, hm, hp⟩ := State.inPhase_iff.1 hs
        · exact ⟨m, hm, .inl (of_decide_eq_true hp)⟩
        · exact ⟨m, hm, .inr ⟨of_decide_eq_true hp, he, hc⟩⟩
      spread := fun i m hm hp => h.spreadingNamed i (State.inPhase_iff.2 ⟨m, hm, decide_eq_true hp⟩)
      entry := fun p e he => by
        obtain ⟨m, hm, hp⟩ := State.inPhase_iff.1 (h.entry p e he)
        simp only [Bool.or_eq_true, decide_eq_true_eq] at hp
        exact ⟨m, hm, hp.elim .inl fun k => .inr (.inl k)⟩
      hold := fun p x hx => by
        obtain ⟨m, hm, hp⟩ := State.inPhase_iff.1 (h.hold p x hx)
        exact ⟨m, hm, fun k => by simp [k] at hp⟩
      current := fun ch i hi => by
        obtain ⟨d, hd, hc⟩ := State.current?_eq_some.1 hi
        obtain ⟨hs, n, hn, hch⟩ := h.current ch d i hd hc
        obtain ⟨m, hm, hp⟩ := State.inPhase_iff.1 hs
        cases (State.message?_eq_some.1 hn).symm.trans hm
        simp only [Bool.or_eq_true, decide_eq_true_eq] at hp
        exact ⟨n, hm, hp.elim .inl fun k => .inr (.inl k), hch⟩ }

theorem Ledger.Balanced.poolSound {s : State} (h : Ledger.Balanced ⟨s, [], none⟩) : s.PoolSound := by
  obtain ⟨listed, named, counted⟩ := h
  have alive : ∀ {i m}, Ledger.Alive ⟨s, [], none⟩ i m → (decide (m.phase = .spreading) || decide (m.phase = .live)) = true := by
    rintro i m (h | h | ⟨-, h⟩)
    · simp [h]
    · simp [h]
    · cases h
  constructor
  case counted => exact fun i => counted i
  case freeIsZero => exact listed.freeIsZero
  case freeListOnce => exact listed.once
  case freeListed => exact listed.free
  case account => exact listed.account
  case filling =>
    exact fun p i => ⟨named.reservation p i, fun ⟨ch, hi⟩ => (named.reserved i ch p hi).resolve_right List.not_mem_nil⟩
  case pending =>
    intro r hr
    obtain ⟨m, hm, hp⟩ := named.request r hr
    exact State.inPhase_iff.2 ⟨m, hm, decide_eq_true hp⟩
  case pendingQueued =>
    intro i hi
    obtain ⟨m, hm, hp⟩ := State.inPhase_iff.1 hi
    exact (named.requested i m hm (of_decide_eq_true hp)).resolve_right List.not_mem_nil
  case onceQueued => exact named.onceQueued
  case spreading =>
    intro f hf
    obtain ⟨m, hm, hp | ⟨hp, he, hc⟩⟩ := named.spreading f hf
    · exact .inl (State.inPhase_iff.2 ⟨m, hm, decide_eq_true hp⟩)
    · exact .inr ⟨State.inPhase_iff.2 ⟨m, hm, decide_eq_true hp⟩, he, hc⟩
  case spreadingNamed =>
    intro i hi
    obtain ⟨m, hm, hp⟩ := State.inPhase_iff.1 hi
    exact named.spread i m hm (of_decide_eq_true hp)
  case entry =>
    intro p e he
    obtain ⟨m, hm, ha⟩ := named.entry p e he
    exact State.inPhase_iff.2 ⟨m, hm, alive ha⟩
  case hold =>
    intro p x hx
    obtain ⟨m, hm, hp⟩ := named.hold p x hx
    refine State.inPhase_iff.2 ⟨m, hm, ?_⟩
    cases e : m.phase <;> simp_all
  case current =>
    intro ch d i hd hc
    obtain ⟨m, hm, ha, hch⟩ := named.current ch i (State.current?_eq_some.2 ⟨d, hd, hc⟩)
    exact ⟨State.inPhase_iff.2 ⟨m, hm, alive ha⟩, m, State.message?_eq_some.2 hm, hch⟩

/-! ### What the parts depend on -/

section
variable {s t : State}

theorem State.Listed.congr (h : s.Listed) (geometry : t.geometry = s.geometry) (slots : t.slots = s.slots)
    (freeList : t.freeList = s.freeList) (account : ∀ p, (t.ports.get p).account = (s.ports.get p).account) : t.Listed := by
  constructor <;> simp only [geometry, slots, freeList, account]
  · exact h.freeIsZero
  · exact h.once
  · exact h.free
  · exact h.account

/-- Records whose uses, and whose counts as far as they are 0, are as before. -/
theorem State.Listed.of_uses (h : s.Listed) (slots : Table Slot 256) (use : ∀ i, (slots.get i).use = (s.slots.get i).use)
    (refs : ∀ i, (slots.get i).refs = 0 ↔ (s.slots.get i).refs = 0) : ({ s with slots := slots } : State).Listed := by
  constructor <;> simp only [use, refs]
  · exact h.freeIsZero
  · exact h.once
  · exact h.free
  · exact h.account

/-- Names fit in a state that names the same slots, in records of the same use. -/
theorem Ledger.Named.congr {o d} (h : Ledger.Named ⟨s, o, d⟩) (use : ∀ i, (t.slots.get i).use = (s.slots.get i).use)
    (reservations : t.reservations = s.reservations) (requests : t.publishQueue = s.publishQueue) (engine : t.engine = s.engine)
    (queues : t.queues = s.queues) (holds : t.holds = s.holds) (current : ∀ ch, t.current? ch = s.current? ch) :
    Ledger.Named ⟨t, o, d⟩ := by
  constructor <;> simp only [use, reservations, requests, engine, queues, holds, current]
  · exact h.reservation
  · exact h.reserved
  · exact h.request
  · exact h.requested
  · exact h.onceQueued
  · exact h.spreading
  · exact h.spread
  · exact h.entry
  · exact h.hold
  · exact h.current

/-- A slot may be owed more. -/
theorem Ledger.Named.owe {o o' d} (h : Ledger.Named ⟨s, o, d⟩) (sub : ∀ i ∈ o, i ∈ o') : Ledger.Named ⟨s, o', d⟩ :=
  { h with
    reserved := fun i ch p hi => (h.reserved i ch p hi).imp_right (sub i)
    requested := fun i m hm hp => (h.requested i m hm hp).imp_right (sub i) }

/-- The invariant depends on the traffic, the fill pointers and the device state aside. -/
theorem Ledger.Balanced.congr {o d} (h : Ledger.Balanced ⟨s, o, d⟩) (geometry : t.geometry = s.geometry)
    (slots : t.slots = s.slots) (freeList : t.freeList = s.freeList) (reservations : t.reservations = s.reservations)
    (requests : t.publishQueue = s.publishQueue) (engine : t.engine = s.engine) (queues : t.queues = s.queues)
    (holds : t.holds = s.holds) (current : ∀ ch, t.current? ch = s.current? ch)
    (account : ∀ p, (t.ports.get p).account = (s.ports.get p).account) : Ledger.Balanced ⟨t, o, d⟩ where
  listed := h.listed.congr geometry slots freeList account
  named := h.named.congr (fun i => by rw [slots]) reservations requests engine queues holds current
  counted i := by
    show (t.slots.get i).refs = t.holders i + o.count i
    rw [slots, State.holders_congr reservations requests engine queues holds current]
    exact h.counted i

theorem Ledger.Balanced.of_traffic {o d} (h : Ledger.Balanced ⟨s, o, d⟩) (e : t.traffic = s.traffic) :
    Ledger.Balanced ⟨t, o, d⟩ := by
  obtain ⟨geometry, slots, freeList, reservations, requests, engine, queues, holds, current, -, account, -⟩ := State.traffic_eq e
  exact h.congr geometry slots freeList reservations requests engine queues holds current account

end

end Sys2Proof.Machine
end

section
/-! Giving up and taking up. A holder that gives up a slot leaves a release owed; a holder that takes one up takes over an owed
release. Every change of the pool's names is put together from these. -/

namespace Sys2Proof.Machine

/-! ### How the holders of a slot change -/

theorem count_cons_toNat (i : SlotId) (o : List SlotId) (j : SlotId) :
    (i :: o).count j = o.count j + (decide (i = j)).toNat := by
  by_cases h : i = j <;> simp [h]

theorem countP_append_one {α : Type} (l : List α) (a : α) (f : α → Bool) :
    (l ++ [a]).countP f = l.countP f + (f a).toNat := by
  cases h : f a <;> simp [h]

section
variable (s : State)

theorem State.holders_setReservations (p : Port) (x : Option SlotId) (j : SlotId) :
    ({ s with reservations := s.reservations.set p x } : State).holders j + (decide (s.reservations.get p = some j)).toNat =
      s.holders j + (decide (x = some j)).toNat := by
  have h := State.reservedFor_set (s := s) (t := { s with reservations := s.reservations.set p x }) rfl j
  rw [s.holders_eq]
  show State.reservedFor _ j + s.requestedFor j + s.spreadFor j + s.queuedFor j + s.heldFor j + s.currentFor j + _ = _
  omega

theorem State.holders_setRequests (q : List Request) (j : SlotId) :
    ({ s with publishQueue := q } : State).holders j + s.requestedFor j =
      s.holders j + q.countP fun r => decide (r.slot = j) := by
  rw [s.holders_eq]
  show s.reservedFor j + q.countP _ + s.spreadFor j + s.queuedFor j + s.heldFor j + s.currentFor j + _ = _
  omega

theorem State.holders_setEngine (x : Option FanOut) (j : SlotId) :
    ({ s with engine := x } : State).holders j + s.spreadFor j =
      s.holders j + (x.any fun f => decide (f.request.slot = j)).toNat := by
  rw [s.holders_eq]
  show s.reservedFor j + s.requestedFor j + (x.any _).toNat + s.queuedFor j + s.heldFor j + s.currentFor j + _ = _
  omega

theorem State.holders_setQueue (p : Port) (q : List Entry) (j : SlotId) :
    (s.setQueue p q).holders j + ((s.queues.get p).countP fun e => decide (e.slot = j)) =
      s.holders j + q.countP fun e => decide (e.slot = j) := by
  have h := State.queuedFor_set (s := s) (t := s.setQueue p q) rfl j
  rw [s.holders_eq]
  show s.reservedFor j + s.requestedFor j + s.spreadFor j + State.queuedFor _ j + s.heldFor j + s.currentFor j + _ = _
  omega

theorem State.holders_setHold (p : Port) (x : Option Hold) (j : SlotId) :
    (s.setHold p x).holders j + ((s.holds.get p).any fun h => decide (h.entry.slot = j)).toNat =
      s.holders j + (x.any fun h => decide (h.entry.slot = j)).toNat := by
  have h := State.heldFor_set (s := s) (t := s.setHold p x) rfl j
  rw [s.holders_eq]
  show s.reservedFor j + s.requestedFor j + s.spreadFor j + s.queuedFor j + State.heldFor _ j + s.currentFor j + _ = _
  omega

theorem State.holders_updChannel (ch : ChannelId) (g : Channel → Channel) {x : Option SlotId}
    (value : ((g (s.channels.get ch)).defn.bind fun d => d.current) = x) (j : SlotId) :
    (s.updChannel ch g).holders j + (decide (s.current? ch = some j)).toNat = s.holders j + (decide (x = some j)).toNat := by
  have h := State.currentFor_update (s := s) (t := s.updChannel ch g) (ch := ch) (x := x)
    (fun c => by rw [State.current?_updChannel, value]) j
  rw [s.holders_eq]
  show s.reservedFor j + s.requestedFor j + s.spreadFor j + s.queuedFor j + s.heldFor j + State.currentFor _ j + _ = _
  omega

end

/-- What holders lose is owed, and what was owed holders gain. -/
theorem Ledger.Counted.move {s t : State} {o o' d d'} (h : Ledger.Counted ⟨s, o, d⟩) (slots : t.slots = s.slots)
    (moved : ∀ j, t.holders j + o'.count j = s.holders j + o.count j) : Ledger.Counted ⟨t, o', d'⟩ := fun j => by
  show (t.slots.get j).refs = t.holders j + o'.count j
  rw [slots, moved]
  exact h j

section
variable {s : State} {o : List SlotId} {d : Option (SlotId × ChannelId)} {i : SlotId} {p : Port}

/-! ### Giving up -/

/-- A reservation is given up. -/
theorem Ledger.Balanced.giveReservation (h : Ledger.Balanced ⟨s, o, d⟩) (reserved : s.reservations.get p = some i) :
    Ledger.Balanced ⟨{ s with reservations := s.reservations.set p none }, i :: o, d⟩ where
  listed := { h.listed with }
  named :=
    { h.named.owe fun _ => List.mem_cons_of_mem i with
      reservation := fun q j hj => by
        rw [PerPort.get_set] at hj
        split at hj
        · cases hj
        · exact h.named.reservation q j hj
      reserved := fun j ch q hj => by
        rcases h.named.reserved j ch q hj with hr | ho
        · by_cases e : q = p
          · cases (e ▸ hr).symm.trans reserved
            exact .inr (List.mem_cons_self ..)
          · exact .inl ((PerPort.get_set_other _ _ e).trans hr)
        · exact .inr (List.mem_cons_of_mem i ho) }
  counted := h.counted.move rfl fun j => by
    have k := s.holders_setReservations p none j
    simp only [reserved, Option.some.injEq, reduceCtorEq, decide_false, Bool.toNat_false] at k
    rw [count_cons_toNat]
    omega

/-- Entries leave a delivery queue. -/
theorem Ledger.Balanced.giveEntries (h : Ledger.Balanced ⟨s, o, d⟩) {q : List Entry} {is : List SlotId}
    (sub : ∀ e ∈ q, e ∈ s.queues.get p)
    (rest : ∀ j, (s.queues.get p).countP (fun e => decide (e.slot = j)) = q.countP (fun e => decide (e.slot = j)) + is.count j) :
    Ledger.Balanced ⟨s.setQueue p q, is ++ o, d⟩ where
  listed := { h.listed with }
  named :=
    { h.named.owe fun _ => List.mem_append_right is with
      entry := fun x e he => by
        refine h.named.entry x e ?_
        rw [State.setQueue_queues, PerPort.get_set] at he
        split at he
        · next hx => exact hx ▸ sub e he
        · exact he }
  counted := h.counted.move rfl fun j => by
    have k := s.holders_setQueue p q j
    rw [rest j] at k
    rw [List.count_append]
    omega

/-- A read hold is given up. -/
theorem Ledger.Balanced.giveHold (h : Ledger.Balanced ⟨s, o, d⟩) {y : Hold} (held : s.holds.get p = some y) :
    Ledger.Balanced ⟨s.setHold p none, y.entry.slot :: o, d⟩ where
  listed := { h.listed with }
  named :=
    { h.named.owe fun _ => List.mem_cons_of_mem y.entry.slot with
      hold := fun q x hx => by
        rw [State.setHold_holds, PerPort.get_set] at hx
        split at hx
        · cases hx
        · exact h.named.hold q x hx }
  counted := h.counted.move rfl fun j => by
    have k := s.holders_setHold p none j
    simp only [held, Option.any_some, Option.any_none, Bool.toNat_false] at k
    rw [count_cons_toNat]
    omega

/-- Requests leave the publish queue. -/
theorem Ledger.Balanced.giveRequests (h : Ledger.Balanced ⟨s, o, d⟩) {q : List Request} {is : List SlotId}
    (sub : q.Sublist s.publishQueue) (rest : ∀ j, s.requestedFor j = q.countP (fun r => decide (r.slot = j)) + is.count j) :
    Ledger.Balanced ⟨{ s with publishQueue := q }, is ++ o, d⟩ where
  listed := { h.listed with }
  named :=
    { h.named.owe fun _ => List.mem_append_right is with
      request := fun r hr => h.named.request r (sub.subset hr)
      requested := fun j m hm hp => by
        rcases h.named.requested j m hm hp with ⟨r, hr, e⟩ | ho
        · have some : 0 < s.requestedFor j := List.countP_pos_iff.2 ⟨r, hr, decide_eq_true e⟩
          rw [rest j] at some
          rcases Nat.add_pos_iff_pos_or_pos.1 some with hq | hi
          · obtain ⟨x, hx, k⟩ := List.countP_pos_iff.1 hq
            exact .inl ⟨x, hx, of_decide_eq_true k⟩
          · exact .inr (List.mem_append_left o (List.count_pos_iff.1 hi))
        · exact .inr (List.mem_append_right is ho)
      onceQueued := h.named.onceQueued.sublist (sub.map _) }
  counted := h.counted.move rfl fun j => by
    have k := s.holders_setRequests q j
    rw [rest j] at k
    rw [List.count_append]
    omega

/-- A channel loses its current value. -/
theorem Ledger.Balanced.giveCurrent (h : Ledger.Balanced ⟨s, o, d⟩) {ch : ChannelId} {g : Channel → Channel}
    (current : s.current? ch = some i) (gone : ((g (s.channels.get ch)).defn.bind fun d => d.current) = none) :
    Ledger.Balanced ⟨s.updChannel ch g, i :: o, d⟩ where
  listed := { h.listed with }
  named :=
    { h.named.owe fun _ => List.mem_cons_of_mem i with
      current := fun c j hj => by
        have hj : (s.updChannel ch g).current? c = some j := hj
        rw [State.current?_updChannel, gone] at hj
        split at hj
        · cases hj
        · exact h.named.current c j hj }
  counted := h.counted.move rfl fun j => by
    have k := s.holders_updChannel ch g gone j
    simp only [current, Option.some.injEq, reduceCtorEq, decide_false, Bool.toNat_false] at k
    rw [count_cons_toNat]
    omega

/-! ### Taking up -/

/-- Names fit when less is owed, if what is no longer owed is named. -/
theorem Ledger.Named.settle (h : Ledger.Named ⟨s, i :: o, d⟩)
    (filling : ∀ ch p, (s.slots.get i).use = .filling ch p → s.reservations.get p = some i)
    (pending : ∀ m, (s.slots.get i).use = .message m → m.phase = .pending → ∃ r ∈ s.publishQueue, r.slot = i) :
    Ledger.Named ⟨s, o, d⟩ :=
  { h with
    reserved := fun j ch q hj => by
      rcases h.reserved j ch q hj with hr | ho
      · exact .inl hr
      · rcases List.mem_cons.1 ho with rfl | ho
        · exact .inl (filling ch q hj)
        · exact .inr ho
    requested := fun j m hm hp => by
      rcases h.requested j m hm hp with hr | ho
      · exact .inl hr
      · rcases List.mem_cons.1 ho with rfl | ho
        · exact .inl (pending m hm hp)
        · exact .inr ho }

/-- An owed slot whose message is past PENDING needs no name. -/
theorem Ledger.Named.settle_message (h : Ledger.Named ⟨s, i :: o, d⟩) {m : Message} (use : (s.slots.get i).use = .message m)
    (phase : m.phase ≠ .pending) : Ledger.Named ⟨s, o, d⟩ :=
  h.settle (fun ch q hu => by cases use.symm.trans hu) fun n hn hp => by
    cases use.symm.trans hn
    exact absurd hp phase

/-- A message that may be queued is past PENDING. -/
theorem Ledger.Alive.ne_pending {l : Ledger} {m : Message} (h : l.Alive i m) : m.phase ≠ .pending := fun hp => by
  rcases h with k | k | ⟨k, -⟩ <;> cases hp.symm.trans k

/-- A FILLING slot is reserved. -/
theorem Ledger.Balanced.takeReservation (h : Ledger.Balanced ⟨s, i :: o, d⟩) {ch : ChannelId} (empty : s.reservations.get p = none)
    (use : (s.slots.get i).use = .filling ch p) :
    Ledger.Balanced ⟨{ s with reservations := s.reservations.set p (some i) }, o, d⟩ where
  listed := { h.listed with }
  named := by
    have taken : Ledger.Named ⟨{ s with reservations := s.reservations.set p (some i) }, i :: o, d⟩ :=
      { h.named with
        reservation := fun q j hj => by
          rw [PerPort.get_set] at hj
          split at hj
          · next e =>
            cases hj
            exact ⟨ch, e ▸ use⟩
          · exact h.named.reservation q j hj
        reserved := fun j c q hj => (h.named.reserved j c q hj).imp_left fun hr =>
          (PerPort.get_set_other _ _ fun e => by cases (e ▸ hr).symm.trans empty).trans hr }
    refine taken.settle (fun c q hu => ?_) fun m hm => by cases use.symm.trans hm
    cases use.symm.trans hu
    exact PerPort.get_set_same ..
  counted := h.counted.move rfl fun j => by
    have k := s.holders_setReservations p (some i) j
    simp only [empty, Option.some.injEq, reduceCtorEq, decide_false, Bool.toNat_false] at k
    rw [count_cons_toNat]
    omega

/-- A slot is queued. -/
theorem Ledger.Balanced.takeEntry {e : Entry} (h : Ledger.Balanced ⟨s, e.slot :: o, d⟩) {m : Message} (p : Port)
    (use : (s.slots.get e.slot).use = .message m) (alive : Ledger.Alive ⟨s, o, d⟩ e.slot m) :
    Ledger.Balanced ⟨s.setQueue p (s.queues.get p ++ [e]), o, d⟩ where
  listed := { h.listed with }
  named :=
    { h.named.settle_message use alive.ne_pending with
      entry := fun q x hx => by
        rw [State.setQueue_queues, PerPort.get_set] at hx
        split at hx
        · rcases List.mem_append.1 hx with hx | hx
          · exact h.named.entry p x hx
          · cases List.mem_singleton.1 hx
            exact ⟨m, use, alive⟩
        · exact h.named.entry q x hx }
  counted := h.counted.move rfl fun j => by
    have k := s.holders_setQueue p (s.queues.get p ++ [e]) j
    rw [countP_append_one] at k
    rw [count_cons_toNat]
    omega

/-- A slot is held. -/
theorem Ledger.Balanced.takeHold {y : Hold} (h : Ledger.Balanced ⟨s, y.entry.slot :: o, d⟩) {m : Message}
    (empty : s.holds.get p = none) (use : (s.slots.get y.entry.slot).use = .message m) (phase : m.phase ≠ .pending) :
    Ledger.Balanced ⟨s.setHold p (some y), o, d⟩ where
  listed := { h.listed with }
  named :=
    { h.named.settle_message use phase with
      hold := fun q x hx => by
        rw [State.setHold_holds, PerPort.get_set] at hx
        split at hx
        · cases hx
          exact ⟨m, use, phase⟩
        · exact h.named.hold q x hx }
  counted := h.counted.move rfl fun j => by
    have k := s.holders_setHold p (some y) j
    simp only [empty, Option.any_some, Option.any_none, Bool.toNat_false] at k
    rw [count_cons_toNat]
    omega

/-- A PENDING slot is requested. -/
theorem Ledger.Balanced.takeRequest {r : Request} (h : Ledger.Balanced ⟨s, r.slot :: o, d⟩) {m : Message}
    (use : (s.slots.get r.slot).use = .message m) (phase : m.phase = .pending) (new : ∀ x ∈ s.publishQueue, x.slot ≠ r.slot) :
    Ledger.Balanced ⟨{ s with publishQueue := s.publishQueue ++ [r] }, o, d⟩ where
  listed := { h.listed with }
  named := by
    have taken : Ledger.Named ⟨{ s with publishQueue := s.publishQueue ++ [r] }, r.slot :: o, d⟩ :=
      { h.named with
        request := fun x hx => by
          rcases List.mem_append.1 hx with hx | hx
          · exact h.named.request x hx
          · cases List.mem_singleton.1 hx
            exact ⟨m, use, phase⟩
        requested := fun j n hn hp => (h.named.requested j n hn hp).imp_left fun ⟨x, hx, e⟩ =>
          ⟨x, List.mem_append_left _ hx, e⟩
        onceQueued := by
          rw [List.map_append, List.nodup_append]
          refine ⟨h.named.onceQueued, List.nodup_singleton _, fun a ha b hb => ?_⟩
          obtain ⟨x, hx, rfl⟩ := List.mem_map.1 ha
          rw [List.mem_singleton.1 hb]
          exact new x hx }
    exact taken.settle (fun c q hu => by cases use.symm.trans hu) fun n _ _ =>
      ⟨r, List.mem_append_right _ (List.mem_singleton.2 rfl), rfl⟩
  counted := h.counted.move rfl fun j => by
    have k := s.holders_setRequests (s.publishQueue ++ [r]) j
    rw [countP_append_one, ← State.requestedFor] at k
    rw [count_cons_toNat]
    omega

/-- A slot becomes a current value. -/
theorem Ledger.Balanced.takeCurrent (h : Ledger.Balanced ⟨s, i :: o, d⟩) {m : Message} {g : Channel → Channel}
    (empty : s.current? m.channel = none) (value : ((g (s.channels.get m.channel)).defn.bind fun d => d.current) = some i)
    (use : (s.slots.get i).use = .message m) (alive : Ledger.Alive ⟨s, o, d⟩ i m) :
    Ledger.Balanced ⟨s.updChannel m.channel g, o, d⟩ where
  listed := { h.listed with }
  named :=
    { h.named.settle_message use alive.ne_pending with
      current := fun c j hj => by
        have hj : (s.updChannel m.channel g).current? c = some j := hj
        rw [State.current?_updChannel, value] at hj
        split at hj
        · next e =>
          cases hj
          exact ⟨m, use, alive, e.symm⟩
        · exact h.named.current c j hj }
  counted := h.counted.move rfl fun j => by
    have k := s.holders_updChannel m.channel g value j
    simp only [empty, Option.some.injEq, reduceCtorEq, decide_false, Bool.toNat_false] at k
    rw [count_cons_toNat]
    omega

end

end Sys2Proof.Machine
end

section
/-! How the pool's invariant follows a slot record: a reference more, a message's next phase, a release, a reservation of the head
of the free list. -/

namespace Sys2Proof.Machine

section
variable {s : State} {o : List SlotId} {d : Option (SlotId × ChannelId)} {i : SlotId}

theorem State.updSlot_same (s : State) (i : SlotId) (f : Slot → Slot) : (s.updSlot i f).slots.get i = f (s.slots.get i) := by
  rw [State.updSlot_slots, Table.get_modify, if_pos rfl]

theorem State.updSlot_other (s : State) {i j : SlotId} (f : Slot → Slot) (e : j ≠ i) :
    (s.updSlot i f).slots.get j = s.slots.get j := by
  rw [State.updSlot_slots, Table.get_modify, if_neg e]

/-- A slot in use takes one reference more, whose release is owed. -/
theorem Ledger.Balanced.addRef (h : Ledger.Balanced ⟨s, o, d⟩) (used : (s.slots.get i).use ≠ .free) :
    Ledger.Balanced ⟨s.addRef i, i :: o, d⟩ := by
  have slot : ∀ j, (s.addRef i).slots.get j =
      if j = i then { (s.slots.get i) with refs := (s.slots.get i).refs + 1 } else s.slots.get j := fun j =>
    Table.get_modify _ i j _
  have use : ∀ j, ((s.addRef i).slots.get j).use = (s.slots.get j).use := fun j => by
    rw [slot]
    split
    · next e => rw [e]
    · rfl
  refine ⟨h.listed.of_uses _ use fun j => ?_, (h.named.congr use rfl rfl rfl rfl rfl fun _ => rfl).owe fun _ =>
    List.mem_cons_of_mem i, fun j => ?_⟩
  · have busy : (s.slots.get i).refs ≠ 0 := fun e => used ((h.listed.freeIsZero i).2 e)
    have k := slot j
    simp only [State.addRef] at k
    rw [State.updSlot_slots] at k
    rw [k]
    split
    · next e => simp [e, busy]
    · rfl
  · show ((s.addRef i).slots.get j).refs = s.holders j + (i :: o).count j
    have k : (s.slots.get j).refs = s.holders j + o.count j := h.counted j
    rw [slot, count_cons_toNat]
    split
    · next e => simp [← e, k, Nat.add_assoc]
    · next e => simp [Ne.symm e, k]

/-! ### A message's record -/

/-- Every name of slot `i` fits message `n`, which is named if it is PENDING or SPREADING. -/
structure Ledger.Suits (l : Ledger) (i : SlotId) (n : Message) : Prop where
  unreserved : ∀ p, l.state.reservations.get p ≠ some i
  unrequested : ∀ r ∈ l.state.publishQueue, r.slot ≠ i
  pending : n.phase = .pending → i ∈ l.owed
  engine : ∀ f, l.state.engine = some f → f.request.slot = i → f.fits n
  spread : n.phase = .spreading → ∃ f, l.state.engine = some f ∧ f.request.slot = i
  entry : ∀ p, ∀ e ∈ l.state.queues.get p, e.slot = i → l.Alive i n
  hold : ∀ p y, l.state.holds.get p = some y → y.entry.slot = i → n.phase ≠ .pending
  current : ∀ ch, l.state.current? ch = some i → l.Alive i n ∧ n.channel = ch

/-- One record's message changes, with the engine and what is owed as far as they concern this slot. -/
theorem Ledger.Named.setMessage {o' d' f n} {x : Option FanOut} (h : Ledger.Named ⟨s, o, d⟩)
    (made : (f (s.slots.get i)).use = .message n) (engine : ∀ g, g.request.slot ≠ i → (x = some g ↔ s.engine = some g))
    (owed : ∀ j, j ≠ i → j ∈ o → j ∈ o') (alive : ∀ j m, j ≠ i → Ledger.Alive ⟨s, o, d⟩ j m → Ledger.Alive ⟨s, o', d'⟩ j m)
    (suits : Ledger.Suits ⟨{ s with engine := x }, o', d'⟩ i n) :
    Ledger.Named ⟨{ s.updSlot i f with engine := x }, o', d'⟩ := by
  have this : ((s.updSlot i f).slots.get i).use = .message n := (congrArg Slot.use (s.updSlot_same i f)).trans made
  have other : ∀ j, j ≠ i → (s.updSlot i f).slots.get j = s.slots.get j := fun _ e => s.updSlot_other f e
  constructor
  case reservation =>
    intro p j hj
    have e : j ≠ i := fun e => suits.unreserved p (e ▸ hj)
    obtain ⟨ch, hc⟩ := h.reservation p j hj
    exact ⟨ch, (congrArg Slot.use (other j e)).trans hc⟩
  case reserved =>
    intro j ch p hj
    have e : j ≠ i := by
      rintro rfl
      cases this.symm.trans hj
    exact (h.reserved j ch p ((congrArg Slot.use (other j e)).symm.trans hj)).imp_right (owed j e)
  case request =>
    intro r hr
    obtain ⟨m, hm, hp⟩ := h.request r hr
    exact ⟨m, (congrArg Slot.use (other _ (suits.unrequested r hr))).trans hm, hp⟩
  case requested =>
    intro j m hm hp
    by_cases e : j = i
    · subst e
      cases this.symm.trans hm
      exact .inr (suits.pending hp)
    · exact (h.requested j m ((congrArg Slot.use (other j e)).symm.trans hm) hp).imp_right (owed j e)
  case onceQueued => exact h.onceQueued
  case spreading =>
    intro g hg
    by_cases e : g.request.slot = i
    · exact ⟨n, e ▸ this, suits.engine g hg e⟩
    · obtain ⟨m, hm, hf⟩ := h.spreading g ((engine g e).1 hg)
      exact ⟨m, (congrArg Slot.use (other _ e)).trans hm, hf⟩
  case spread =>
    intro j m hm hp
    by_cases e : j = i
    · subst e
      cases this.symm.trans hm
      exact suits.spread hp
    · obtain ⟨g, hg, hs⟩ := h.spread j m ((congrArg Slot.use (other j e)).symm.trans hm) hp
      exact ⟨g, (engine g (hs ▸ e)).2 hg, hs⟩
  case entry =>
    intro p y hy
    by_cases e : y.slot = i
    · exact ⟨n, e ▸ this, e ▸ suits.entry p y hy e⟩
    · obtain ⟨m, hm, ha⟩ := h.entry p y hy
      exact ⟨m, (congrArg Slot.use (other _ e)).trans hm, alive _ m e ha⟩
  case hold =>
    intro p y hy
    by_cases e : y.entry.slot = i
    · exact ⟨n, e ▸ this, suits.hold p y hy e⟩
    · obtain ⟨m, hm, hp⟩ := h.hold p y hy
      exact ⟨m, (congrArg Slot.use (other _ e)).trans hm, hp⟩
  case current =>
    intro ch j hj
    by_cases e : j = i
    · subst e
      exact ⟨n, this, suits.current ch hj⟩
    · obtain ⟨m, hm, ha, hc⟩ := h.current ch j hj
      exact ⟨m, (congrArg Slot.use (other j e)).trans hm, alive j m e ha, hc⟩

/-- One record's use changes, and its account and count stay. -/
theorem State.Listed.setMessage {f : Slot → Slot} {n : Message} (h : s.Listed) (made : (f (s.slots.get i)).use = .message n)
    (refs : (f (s.slots.get i)).refs = (s.slots.get i).refs) (account : (s.slots.get i).use.account? = some n.account) :
    (s.updSlot i f).Listed := by
  have slot : ∀ j, (s.slots.modify i f).get j = if j = i then f (s.slots.get i) else s.slots.get j := fun j =>
    Table.get_modify _ i j f
  have used : (s.slots.get i).use ≠ .free := fun e => by
    rw [e] at account
    cases account
  have free : ∀ j, ((s.slots.modify i f).get j).use = .free ↔ (s.slots.get j).use = .free := fun j => by
    rw [slot]
    split
    · next e => simp [e, made, used]
    · exact Iff.rfl
  constructor
  case once => exact h.once
  case freeIsZero =>
    intro j
    rw [State.updSlot_slots, free, h.freeIsZero, slot]
    split
    · next e => rw [refs, e]
    · exact Iff.rfl
  case free =>
    intro j
    rw [State.updSlot_slots, free]
    exact h.free j
  case account =>
    intro p
    refine (h.account p).trans ?_
    have k := State.account_count_set s.slots i (f (s.slots.get i)) p
    rw [account, made, SlotUse.account?] at k
    exact (Nat.add_right_cancel k).symm

/-- The names and the record of slot `i` change together: see `Ledger.Named.setMessage`. -/
theorem Ledger.Balanced.setMessage {o' d' f n} {x : Option FanOut} (h : Ledger.Balanced ⟨s, o, d⟩)
    (made : (f (s.slots.get i)).use = .message n) (refs : (f (s.slots.get i)).refs = (s.slots.get i).refs)
    (account : (s.slots.get i).use.account? = some n.account)
    (named : Ledger.Named ⟨{ s.updSlot i f with engine := x }, o', d'⟩)
    (moved : ∀ j, (x.any fun g => decide (g.request.slot = j)).toNat + o'.count j = s.spreadFor j + o.count j) :
    Ledger.Balanced ⟨{ s.updSlot i f with engine := x }, o', d'⟩ where
  listed := { h.listed.setMessage made refs account with }
  named := named
  counted j := by
    have k : (s.slots.get j).refs = s.holders j + o.count j := h.counted j
    have e : ((s.slots.modify i f).get j).refs = (s.slots.get j).refs := by
      rw [Table.get_modify]
      split
      · next e => rw [e, refs]
      · rfl
    have moved := moved j
    have holders : ({ s.updSlot i f with engine := x } : State).holders j + s.spreadFor j =
        s.holders j + (x.any fun g => decide (g.request.slot = j)).toNat := s.holders_setEngine x j
    show ((s.slots.modify i f).get j).refs = State.holders { s.updSlot i f with engine := x } j + o'.count j
    omega

/-! ### Release -/

/-- A slot that is FILLING or PENDING, but neither reserved nor requested, is named nowhere. -/
theorem Ledger.Named.holders_eq_zero (h : Ledger.Named ⟨s, o, d⟩)
    (closed : ∀ m, (s.slots.get i).use = .message m → m.phase = .pending) (unreserved : ∀ p, s.reservations.get p ≠ some i)
    (unrequested : ∀ r ∈ s.publishQueue, r.slot ≠ i) : s.holders i = 0 := by
  refine State.holders_eq_zero.2 ⟨unreserved, unrequested, ?_, ?_, ?_, ?_⟩
  · rintro f hf rfl
    obtain ⟨m, hm, hs | ⟨hs, -⟩⟩ := h.spreading f hf <;> cases (closed m hm).symm.trans hs
  · rintro p e he rfl
    obtain ⟨m, hm, ha⟩ := h.entry p e he
    exact ha.ne_pending (closed m hm)
  · rintro p y hy rfl
    obtain ⟨m, hm, hp⟩ := h.hold p y hy
    exact hp (closed m hm)
  · intro ch hc
    obtain ⟨m, hm, ha, -⟩ := h.current ch i hc
    exact ha.ne_pending (closed m hm)

/-- A FILLING slot has no message. -/
theorem Ledger.Named.unrequested_of_filling (h : Ledger.Named ⟨s, o, d⟩) {ch p} (use : (s.slots.get i).use = .filling ch p) :
    ∀ r ∈ s.publishQueue, r.slot ≠ i := by
  rintro r hr rfl
  obtain ⟨m, hm, -⟩ := h.request r hr
  cases use.symm.trans hm

/-- A slot with a message is not reserved. -/
theorem Ledger.Named.unreserved_of_message (h : Ledger.Named ⟨s, o, d⟩) {m} (use : (s.slots.get i).use = .message m) (p : Port) :
    s.reservations.get p ≠ some i := fun hp => by
  obtain ⟨ch, hc⟩ := h.reservation p i hp
  cases use.symm.trans hc

/-- What is no longer owed but held is named. -/
theorem Ledger.Named.settle_held (h : Ledger.Named ⟨s, i :: o, d⟩) (held : s.holders i ≠ 0) : Ledger.Named ⟨s, o, d⟩ := by
  refine h.settle (fun ch p hu => ?_) fun m hm hp => ?_
  · by_contra unreserved
    refine held (h.holders_eq_zero (fun m hm => by cases hu.symm.trans hm) (fun q hq => ?_) (h.unrequested_of_filling hu))
    obtain ⟨c, hc⟩ := h.reservation q i hq
    cases hu.symm.trans hc
    exact unreserved hq
  · by_contra unrequested
    refine held (h.holders_eq_zero (fun n hn => ?_) (h.unreserved_of_message hm) fun r hr e => unrequested ⟨r, hr, e⟩)
    cases hm.symm.trans hn
    exact hp

/-- A record that nobody names is replaced by one without a message. -/
theorem Ledger.Named.replace {o'} (h : Ledger.Named ⟨s, o, d⟩) (unheld : s.holders i = 0) {r : Slot}
    (owed : ∀ j, j ≠ i → j ∈ o → j ∈ o') (noMessage : ∀ m, r.use ≠ .message m) (filling : ∀ ch p, r.use = .filling ch p → i ∈ o') :
    Ledger.Named ⟨{ s with slots := s.slots.set i r }, o', d⟩ := by
  obtain ⟨unreserved, unrequested, unspread, unqueued, unheld, uncurrent⟩ := State.holders_eq_zero.1 unheld
  have this : ((s.slots.set i r).get i).use = r.use := congrArg Slot.use (Table.get_set_same _ i r)
  have other : ∀ j, j ≠ i → ((s.slots.set i r).get j).use = (s.slots.get j).use := fun j e =>
    congrArg Slot.use (Table.get_set_other _ r e)
  have message : ∀ j m, ((s.slots.set i r).get j).use = .message m → j ≠ i ∧ (s.slots.get j).use = .message m := by
    intro j m hm
    have e : j ≠ i := by
      rintro rfl
      exact noMessage m (this.symm.trans hm)
    exact ⟨e, (other j e).symm.trans hm⟩
  constructor
  case reservation =>
    intro p j hj
    obtain ⟨ch, hc⟩ := h.reservation p j hj
    exact ⟨ch, (other j fun e => unreserved p (e ▸ hj)).trans hc⟩
  case reserved =>
    intro j ch p hj
    by_cases e : j = i
    · subst e
      exact .inr (filling ch p (this.symm.trans hj))
    · exact (h.reserved j ch p ((other j e).symm.trans hj)).imp_right (owed j e)
  case request =>
    intro x hx
    obtain ⟨m, hm, hp⟩ := h.request x hx
    exact ⟨m, (other _ (unrequested x hx)).trans hm, hp⟩
  case requested =>
    intro j m hm hp
    obtain ⟨e, hm⟩ := message j m hm
    exact (h.requested j m hm hp).imp_right (owed j e)
  case onceQueued => exact h.onceQueued
  case spreading =>
    intro f hf
    obtain ⟨m, hm, hp⟩ := h.spreading f hf
    exact ⟨m, (other _ (unspread f hf)).trans hm, hp⟩
  case spread => exact fun j m hm => h.spread j m (message j m hm).2
  case entry =>
    intro p e he
    obtain ⟨m, hm, ha⟩ := h.entry p e he
    exact ⟨m, (other _ (unqueued p e he)).trans hm, ha⟩
  case hold =>
    intro p y hy
    obtain ⟨m, hm, hp⟩ := h.hold p y hy
    exact ⟨m, (other _ (unheld p y hy)).trans hm, hp⟩
  case current =>
    intro ch j hj
    obtain ⟨m, hm, ha⟩ := h.current ch j hj
    exact ⟨m, (other j fun e => uncurrent ch (e ▸ hj)).trans hm, ha⟩

/-- A slot in use has an account port. -/
theorem SlotUse.account?_of_ne_free {u : SlotUse} (h : u ≠ .free) : ∃ q, u.account? = some q := by
  cases u with
  | free => exact absurd rfl h
  | filling _ q => exact ⟨q, rfl⟩
  | message m => exact ⟨m.account, rfl⟩

/-- A slot in use is freed: it goes to the tail of the free list and off its account (R5). -/
theorem State.Listed.freeSlot (h : s.Listed) (used : (s.slots.get i).use ≠ .free) (hi : i.val < s.geometry.slotCount) :
    (s.freeSlot i).Listed := by
  have slot : ∀ j, (s.freeSlot i).slots.get j = if j = i then Slot.free else s.slots.get j := fun j => Table.get_set _ i j _
  have unlisted : i ∉ s.freeList := fun hf => used ((h.free i).1 hf).2
  constructor
  case freeIsZero =>
    intro j
    rw [slot]
    split
    · exact ⟨fun _ => rfl, fun _ => rfl⟩
    · exact h.freeIsZero j
  case once =>
    refine List.nodup_append.2 ⟨h.once, List.nodup_singleton i, fun a ha b hb e => ?_⟩
    exact unlisted (List.mem_singleton.1 hb ▸ e ▸ ha)
  case free =>
    intro j
    refine List.mem_append.trans ?_
    rw [slot, h.free, List.mem_singleton]
    split
    · next e => exact iff_of_true (.inr e) ⟨e ▸ hi, rfl⟩
    · next e => exact or_iff_left e
  case account =>
    intro p
    obtain ⟨q, hq⟩ := SlotUse.account?_of_ne_free used
    have e : (s.freeSlot i).ports = s.ports.modify q fun r => { r with account := r.account - 1 } := by
      show PerPort.credit s.ports (s.slots.get i).use.account? = _
      rw [hq]
      rfl
    have k := State.account_count_set s.slots i Slot.free p
    have account := h.account p
    rw [hq, show Slot.free.use.account? = none from rfl] at k
    simp only [Option.some.injEq, reduceCtorEq, decide_false, Bool.toNat_false] at k
    show ((s.freeSlot i).ports.get p).account =
      (indices 256).countP fun j => decide (((s.slots.set i Slot.free).get j).use.account? = some p)
    rw [e, PerPort.get_modify]
    split
    · next e =>
      subst e
      rw [decide_eq_true rfl, Bool.toNat_true] at k
      show (s.ports.get p).account - 1 = _
      omega
    · next e =>
      rw [decide_eq_false (Ne.symm e), Bool.toNat_false] at k
      omega

/-- An owed reference is released (R5). -/
theorem Ledger.Balanced.release (h : Ledger.Balanced ⟨s, i :: o, d⟩) (hi : i.val < s.geometry.slotCount) :
    Ledger.Balanced ⟨s.release i, o, d⟩ := by
  have count : ∀ j, (s.slots.get j).refs = s.holders j + (o.count j + (decide (i = j)).toNat) := fun j =>
    count_cons_toNat i o j ▸ h.counted j
  have this := count i
  rw [decide_eq_true rfl, Bool.toNat_true] at this
  have owed : ∀ j, j ≠ i → j ∈ i :: o → j ∈ o := fun j e hj => (List.mem_cons.1 hj).resolve_left e
  unfold State.release
  split
  · next last =>
    have unheld : s.holders i = 0 := by omega
    have used : (s.slots.get i).use ≠ .free := fun e => by
      rw [(h.listed.freeIsZero i).1 e] at last
      cases last
    have named := h.named.replace unheld (r := Slot.free) owed (fun m hm => by cases hm) fun ch p hu => by cases hu
    refine ⟨h.listed.freeSlot used hi, named.congr (fun _ => rfl) rfl rfl rfl rfl rfl fun _ => rfl, fun j => ?_⟩
    show ((s.slots.set i Slot.free).get j).refs = s.holders j + o.count j
    rw [Table.get_set]
    split
    · next e =>
      subst e
      show 0 = _
      omega
    · next e => rw [count, decide_eq_false (Ne.symm e), Bool.toNat_false, Nat.add_zero]
  · next more =>
    have use : ∀ j, ((s.updSlot i fun r => { r with refs := r.refs - 1 }).slots.get j).use = (s.slots.get j).use := fun j => by
      rw [State.updSlot_slots, Table.get_modify]
      split
      · next e => rw [e]
      · rfl
    have named : Ledger.Named ⟨s, o, d⟩ := by
      by_cases ho : i ∈ o
      · exact h.named.owe fun j hj => (List.mem_cons.1 hj).elim (fun e => e ▸ ho) id
      · rw [List.count_eq_zero.2 ho] at this
        exact h.named.settle_held fun e => more (by omega)
    refine ⟨h.listed.of_uses _ use fun j => ?_, named.congr use rfl rfl rfl rfl rfl fun _ => rfl, fun j => ?_⟩
    · rw [Table.get_modify]
      split
      · next e =>
        subst e
        show (s.slots.get j).refs - 1 = 0 ↔ (s.slots.get j).refs = 0
        omega
      · exact Iff.rfl
    · show ((s.slots.modify i _).get j).refs = s.holders j + o.count j
      rw [Table.get_modify]
      split
      · next e =>
        subst e
        show (s.slots.get j).refs - 1 = _
        omega
      · next e => rw [count, decide_eq_false (Ne.symm e), Bool.toNat_false, Nat.add_zero]

end

end Sys2Proof.Machine
end

section
/-! The moves that change a record and its names together keep the pool's invariant. -/

namespace Sys2Proof.Machine

/-! ### No traffic -/

/-- A pool with every slot FREE and listed, that nobody names, is balanced. -/
theorem Ledger.Balanced.of_empty {s : State} (slots : ∀ i, s.slots.get i = Slot.free)
    (freeList : s.freeList = slotsBelow s.geometry.slotCount) (reservations : ∀ p, s.reservations.get p = none)
    (requests : s.publishQueue = []) (engine : s.engine = none) (queues : ∀ p, s.queues.get p = [])
    (holds : ∀ p, s.holds.get p = none) (current : ∀ ch, s.current? ch = none) (account : ∀ p, (s.ports.get p).account = 0) :
    Ledger.Balanced ⟨s, [], none⟩ where
  listed :=
    { freeIsZero := fun i => by rw [slots]; exact ⟨fun _ => rfl, fun _ => rfl⟩
      once := freeList ▸ nodup_slotsBelow _
      free := fun i => by
        rw [freeList, slots, mem_slotsBelow]
        exact (and_iff_left rfl).symm
      account := fun p => by
        rw [account, eq_comm, List.countP_eq_zero]
        intro i _
        simp [slots, Slot.free, SlotUse.account?] }
  named := by
    constructor <;> simp [reservations, requests, engine, queues, holds, current, slots, Slot.free]
  counted i := by
    show (s.slots.get i).refs = s.holders i + 0
    rw [slots, State.holders_eq_zero.2]
    · rfl
    · simp [reservations, requests, engine, queues, holds, current]

section
variable {s : State}

theorem State.deviceReset_balanced (s : State) : Ledger.Balanced ⟨s.deviceReset, [], none⟩ :=
  .of_empty s.deviceReset_slots rfl (fun p => PerPort.get_all _ p) rfl rfl (fun p => PerPort.get_all _ p)
    (fun p => PerPort.get_all _ p) s.deviceReset_current? fun p => congrArg PortRecord.account (PerPort.get_all _ p)

theorem State.powerOn_balanced (s : State) : Ledger.Balanced ⟨s.powerOn, [], none⟩ :=
  .of_empty s.powerOn_slots rfl (fun p => PerPort.get_all _ p) rfl rfl (fun p => PerPort.get_all _ p)
    (fun p => PerPort.get_all _ p) s.powerOn_current? fun p => congrArg PortRecord.account (PerPort.get_all _ p)

/-- In CONFIG nothing is in use, so the pool may be rebuilt (R2). -/
theorem Ledger.Balanced.withGeometry (h : Ledger.Balanced ⟨s, [], none⟩) (w : s.WithinGeometry)
    (config : s.device.state = .config) (g : Geometry) : Ledger.Balanced ⟨s.withGeometry g, [], none⟩ := by
  have free : ∀ i, (s.slots.get i).use = .free := fun i => by
    cases hu : (s.slots.get i).use with
    | free => rfl
    | filling ch p =>
      have hr := (h.named.reserved i ch p hu).resolve_right List.not_mem_nil
      cases hr.symm.trans (w.configReservation config p)
    | message m => cases (State.message?_eq_some.2 hu).symm.trans (w.configMessage config i)
  refine .of_empty (fun i => Table.get_replicate _ i) rfl (w.configReservation config) (w.configRequest config)
    (w.configEngine config) (w.configQueue config) (w.configHold config) (w.current?_of_config config) fun p => ?_
  refine (h.listed.account p).trans (List.countP_eq_zero.2 fun i _ => ?_)
  simp [free i, SlotUse.account?]

end

/-! ### Requests and the engine's record -/

/-- A change of one port's record that keeps its account keeps every account. -/
theorem account_modify (ports : PerPort PortRecord) (p : Port) {f : PortRecord → PortRecord}
    (keep : ∀ r, (f r).account = r.account) (q : Port) : ((ports.modify p f).get q).account = (ports.get q).account := by
  rw [PerPort.get_modify]
  split
  · next e => rw [keep, e]
  · rfl

section
variable {s : State} {o : List SlotId} {d : Option (SlotId × ChannelId)} {i : SlotId}

/-- Requests change, but not their slots. -/
theorem Ledger.Balanced.mapRequests (h : Ledger.Balanced ⟨s, o, d⟩) {f : Request → Request} (slot : ∀ r, (f r).slot = r.slot) :
    Ledger.Balanced ⟨{ s with publishQueue := s.publishQueue.map f }, o, d⟩ where
  listed := { h.listed with }
  named :=
    { h.named with
      request := fun r hr => by
        obtain ⟨x, hx, rfl⟩ := List.mem_map.1 hr
        exact (slot x).symm ▸ h.named.request x hx
      requested := fun j m hm hp => (h.named.requested j m hm hp).imp_left fun ⟨x, hx, e⟩ =>
        ⟨f x, List.mem_map_of_mem hx, (slot x).trans e⟩
      onceQueued := by
        rw [List.map_map, show (fun r : Request => r.slot) ∘ f = fun r => r.slot from funext slot]
        exact h.named.onceQueued }
  counted := h.counted.move rfl fun j => by
    have k := s.holders_setRequests (s.publishQueue.map f) j
    have same : (s.publishQueue.map f).countP (fun r => decide (r.slot = j)) = s.requestedFor j := by
      simp only [List.countP_map, Function.comp_def, slot, State.requestedFor]
    omega

/-- The engine goes on with its slot. -/
theorem Ledger.Balanced.setEngine (h : Ledger.Balanced ⟨s, o, d⟩) {f g : FanOut} (engine : s.engine = some f)
    (slot : g.request.slot = f.request.slot) (fits : ∀ m, f.fits m → g.fits m) :
    Ledger.Balanced ⟨{ s with engine := some g }, o, d⟩ where
  listed := { h.listed with }
  named :=
    { h.named with
      spreading := fun x hx => by
        cases hx
        obtain ⟨m, hm, hf⟩ := h.named.spreading f engine
        exact ⟨m, slot.symm ▸ hm, fits m hf⟩
      spread := fun j m hm hp => by
        obtain ⟨x, hx, e⟩ := h.named.spread j m hm hp
        cases hx.symm.trans engine
        exact ⟨g, rfl, slot.trans e⟩ }
  counted := h.counted.move rfl fun j => by
    have k := s.holders_setEngine (some g) j
    simp only [State.spreadFor, engine, Option.any_some, slot] at k
    omega

/-- A port's requests are orphaned (R62). -/
theorem Ledger.Balanced.orphanPublishes (h : Ledger.Balanced ⟨s, o, d⟩) (p : Port) :
    Ledger.Balanced ⟨s.orphanPublishes p, o, d⟩ := by
  have requests := h.mapRequests (Request.orphan_slot p)
  have engine : Ledger.Balanced
      ⟨{ s with
          publishQueue := s.publishQueue.map (Request.orphan p)
          engine := s.engine.map fun f => { f with request := f.request.orphan p } }, o, d⟩ := by
    cases e : s.engine with
    | none => exact requests.congr rfl rfl rfl rfl rfl e.symm rfl rfl (fun _ => rfl) fun _ => rfl
    | some f => exact requests.setEngine (f := f) e (f.request.orphan_slot p) fun m hm => hm
  exact engine.congr rfl rfl rfl rfl rfl rfl rfl rfl (fun _ => rfl) (account_modify s.ports p fun _ => rfl)

/-- The engine's expired mark is set (R64). -/
theorem Ledger.Balanced.markExpired (h : Ledger.Balanced ⟨s, o, d⟩) (i : SlotId) : Ledger.Balanced ⟨s.markExpired i, o, d⟩ := by
  unfold State.markExpired
  cases e : s.engine with
  | none => exact h.congr rfl rfl rfl rfl rfl e.symm rfl rfl (fun _ => rfl) fun _ => rfl
  | some f =>
    refine h.setEngine e ?_ fun m hm => ?_ <;> dsimp only
    · split <;> rfl
    · split
      · exact hm.imp_right fun ⟨he, _⟩ => ⟨he, rfl, rfl⟩
      · exact hm

/-- The engine visits the next port (R53). -/
theorem Ledger.Balanced.advance (h : Ledger.Balanced ⟨s, o, d⟩) {f : FanOut} (p : Port) (n : Counts) (engine : s.engine = some f)
    (unfinished : f.cursor ≠ .finish) : Ledger.Balanced ⟨s.advance f p n, o, d⟩ :=
  h.setEngine engine rfl fun _ hm => hm.imp_right fun ⟨_, _, hc⟩ => absurd hc unfinished

/-! ### Lifetimes and expiry -/

theorem Slot.tick_refs (r : Slot) : r.tick.refs = r.refs := by
  unfold Slot.tick
  split <;> rfl

theorem Slot.tick_account (r : Slot) : r.tick.use.account? = r.use.account? := by
  unfold Slot.tick
  split
  · next m hm => rw [hm]; rfl
  · rfl
  · rfl

theorem Slot.tick_free (r : Slot) : r.tick.use = .free ↔ r.use = .free := by
  unfold Slot.tick
  split
  · next m hm => simp [hm]
  · exact Iff.rfl
  · exact Iff.rfl

theorem Slot.tick_filling {r : Slot} {ch : ChannelId} {p : Port} : r.tick.use = .filling ch p ↔ r.use = .filling ch p := by
  unfold Slot.tick
  split
  · next m hm => simp [hm]
  · exact Iff.rfl
  · exact Iff.rfl

theorem Slot.tick_of_message {r : Slot} {m : Message} (h : r.use = .message m) :
    r.tick.use = .message { m with lifetime := lowered m.lifetime } := by
  simp [Slot.tick, h]

/-- Every lifetime falls (R119). -/
theorem Ledger.Balanced.tick (h : Ledger.Balanced ⟨s, o, d⟩) : Ledger.Balanced ⟨{ s with slots := s.slots.map Slot.tick }, o, d⟩ := by
  have slot : ∀ j, (s.slots.map Slot.tick).get j = (s.slots.get j).tick := fun j => Table.get_map _ _ j
  refine ⟨?_, ?_, fun j => ?_⟩
  · constructor <;> simp only [slot, Slot.tick_refs, Slot.tick_account, Slot.tick_free]
    · exact h.listed.freeIsZero
    · exact h.listed.once
    · exact h.listed.free
    · exact h.listed.account
  · constructor <;> simp only [slot, Slot.tick_filling]
    case reservation => exact h.named.reservation
    case reserved => exact h.named.reserved
    case request =>
      intro r hr
      obtain ⟨m, hm, hp⟩ := h.named.request r hr
      exact ⟨_, Slot.tick_of_message hm, hp⟩
    case requested =>
      intro j m hm hp
      obtain ⟨n, hn, rfl⟩ := Slot.tick_message hm
      exact h.named.requested j n hn hp
    case onceQueued => exact h.named.onceQueued
    case spreading =>
      intro f hf
      obtain ⟨m, hm, hp⟩ := h.named.spreading f hf
      exact ⟨_, Slot.tick_of_message hm, hp⟩
    case spread =>
      intro j m hm hp
      obtain ⟨n, hn, rfl⟩ := Slot.tick_message hm
      exact h.named.spread j n hn hp
    case entry =>
      intro p e he
      obtain ⟨m, hm, ha⟩ := h.named.entry p e he
      exact ⟨_, Slot.tick_of_message hm, ha⟩
    case hold =>
      intro p y hy
      obtain ⟨m, hm, hp⟩ := h.named.hold p y hy
      exact ⟨_, Slot.tick_of_message hm, hp⟩
    case current =>
      intro ch j hj
      obtain ⟨m, hm, ha, hc⟩ := h.named.current ch j hj
      exact ⟨_, Slot.tick_of_message hm, ha, hc⟩
  · show ((s.slots.map Slot.tick).get j).refs = _
    rw [slot, Slot.tick_refs]
    exact h.counted j

/-- Only a PENDING slot is requested. -/
theorem Ledger.Named.unrequested_of_message (h : Ledger.Named ⟨s, o, d⟩) {m : Message} (use : (s.slots.get i).use = .message m)
    (phase : m.phase ≠ .pending) : ∀ r ∈ s.publishQueue, r.slot ≠ i := by
  rintro r hr rfl
  obtain ⟨n, hn, hp⟩ := h.request r hr
  cases use.symm.trans hn
  exact phase hp

/-- Outside of an expiry what may be queued is SPREADING or LIVE. -/
theorem Ledger.Alive.phase {m : Message} (h : Ledger.Alive ⟨s, o, none⟩ i m) : m.phase = .spreading ∨ m.phase = .live := by
  rcases h with h | h | ⟨-, h⟩
  · exact .inl h
  · exact .inr h
  · cases h

/-- What names slot `i` as a message names the message the slot has. -/
theorem Ledger.Named.alive_of_entry (h : Ledger.Named ⟨s, o, d⟩) {m : Message} (use : (s.slots.get i).use = .message m) {p : Port}
    {e : Entry} (he : e ∈ s.queues.get p) (slot : e.slot = i) : Ledger.Alive ⟨s, o, d⟩ i m := by
  subst slot
  obtain ⟨n, hn, ha⟩ := h.entry p e he
  cases use.symm.trans hn
  exact ha

theorem Ledger.Named.alive_of_current (h : Ledger.Named ⟨s, o, d⟩) {m : Message} (use : (s.slots.get i).use = .message m)
    {ch : ChannelId} (hc : s.current? ch = some i) : Ledger.Alive ⟨s, o, d⟩ i m ∧ m.channel = ch := by
  obtain ⟨n, hn, ha⟩ := h.current ch i hc
  cases use.symm.trans hn
  exact ha

theorem Ledger.Named.fits_of_engine (h : Ledger.Named ⟨s, o, d⟩) {m : Message} (use : (s.slots.get i).use = .message m)
    {f : FanOut} (hf : s.engine = some f) (slot : f.request.slot = i) : f.fits m := by
  subst slot
  obtain ⟨n, hn, ha⟩ := h.spreading f hf
  cases use.symm.trans hn
  exact ha

/-- A SPREADING slot that the engine has marked, or a LIVE slot, becomes EXPIRED (R120). -/
theorem Ledger.Balanced.expire (h : Ledger.Balanced ⟨s, [], none⟩) {m : Message} (use : (s.slots.get i).use = .message m)
    (phase : (m.phase = .spreading ∧ ∀ f, s.engine = some f → f.request.slot = i → f.expired = true ∧ f.cursor = .finish) ∨
      m.phase = .live) :
    Ledger.Balanced
      ⟨s.updSlot i fun r => { r with use := .message { m with phase := .expired, lifetime := none } }, [], some (i, m.channel)⟩ := by
  have notPending : m.phase ≠ .pending := fun e => by rcases phase with ⟨k, -⟩ | k <;> cases e.symm.trans k
  refine h.setMessage (x := s.engine) (n := { m with phase := .expired, lifetime := none })
    (f := fun r => { r with use := .message { m with phase := .expired, lifetime := none } }) rfl rfl (congrArg SlotUse.account? use)
    (h.named.setMessage rfl (fun _ _ => Iff.rfl) (fun _ _ hj => hj) (fun j n _ ha => ha.phase.imp_right .inl) ?_) fun _ => rfl
  constructor
  case unreserved => exact h.named.unreserved_of_message use
  case unrequested => exact h.named.unrequested_of_message use notPending
  case pending => exact fun e => by cases e
  case engine =>
    intro f hf hs
    refine .inr ⟨rfl, ?_⟩
    rcases phase with ⟨-, marked⟩ | live
    · exact marked f hf hs
    · rcases h.named.fits_of_engine use hf hs with k | ⟨k, -⟩ <;> cases live.symm.trans k
  case spread => exact fun e => by cases e
  case entry => exact fun _ _ _ _ => .inr (.inr ⟨rfl, rfl⟩)
  case hold => exact fun _ _ _ _ e => by cases e
  case current => exact fun ch hc => ⟨.inr (.inr ⟨rfl, rfl⟩), (h.named.alive_of_current use hc).2⟩

/-- The expiry is over (R120, R92). -/
theorem Ledger.Balanced.buried {ch : ChannelId} (h : Ledger.Balanced ⟨s, [], some (i, ch)⟩)
    (entries : ∀ p, ∀ e ∈ s.queues.get p, e.slot ≠ i) (value : s.current? ch ≠ some i) : Ledger.Balanced ⟨s, [], none⟩ where
  listed := h.listed
  counted := h.counted
  named :=
    { h.named with
      entry := fun p e he => by
        obtain ⟨m, hm, k | k | ⟨-, k⟩⟩ := h.named.entry p e he
        · exact ⟨m, hm, .inl k⟩
        · exact ⟨m, hm, .inr (.inl k)⟩
        · cases k
          exact absurd rfl (entries p e he)
      current := fun c j hj => by
        obtain ⟨m, hm, k | k | ⟨-, k⟩, hc⟩ := h.named.current c j hj
        · exact ⟨m, hm, .inl k, hc⟩
        · exact ⟨m, hm, .inr (.inl k), hc⟩
        · cases k
          exact absurd (hc ▸ hj) value }

end

end Sys2Proof.Machine
end

section
/-! The way of a slot keeps the pool's invariant: reserved, published, spread, settled. With that every move keeps it, and every
step. -/

namespace Sys2Proof.Machine

section
variable {s : State} {o : List SlotId} {d : Option (SlotId × ChannelId)} {i : SlotId}

/-! ### The way of a slot: reserved, published, spread, settled -/

/-- The head of the free list is filled for a port: it leaves the list and is on the port's account (R9). -/
theorem State.Listed.reserveHead (h : s.Listed) {ch : ChannelId} {p : Port} {rest : List SlotId} (head : s.freeList = i :: rest) :
    ({ s with
      freeList := rest
      slots := s.slots.set i { use := .filling ch p, refs := 1 }
      ports := s.ports.modify p fun r => { r with account := r.account + 1 } } : State).Listed := by
  obtain ⟨out, once⟩ := List.nodup_cons.1 (head ▸ h.once)
  constructor
  case freeIsZero =>
    intro j
    show ((s.slots.set i _).get j).use = _ ↔ ((s.slots.set i _).get j).refs = 0
    rw [Table.get_set]
    split
    · simp
    · exact h.freeIsZero j
  case once => exact once
  case free =>
    intro j
    show j ∈ rest ↔ j.val < s.geometry.slotCount ∧ ((s.slots.set i _).get j).use = .free
    rw [Table.get_set]
    split
    · next e => simp [e, out]
    · next e =>
      rw [← h.free j, head, List.mem_cons]
      exact (or_iff_right e).symm
  case account =>
    intro q
    have free : (s.slots.get i).use = .free := ((h.free i).1 (head ▸ List.mem_cons_self ..)).2
    have k := State.account_count_set s.slots i { use := .filling ch p, refs := 1 } q
    have account := h.account q
    rw [free, show SlotUse.free.account? = none from rfl, show (SlotUse.filling ch p).account? = some p from rfl] at k
    simp only [Option.some.injEq, reduceCtorEq, decide_false, Bool.toNat_false] at k
    show ((s.ports.modify p _).get q).account =
      (indices 256).countP fun j => decide (((s.slots.set i { use := .filling ch p, refs := 1 }).get j).use.account? = some q)
    rw [PerPort.get_modify]
    split
    · next e =>
      subst e
      rw [decide_eq_true rfl, Bool.toNat_true] at k
      show (s.ports.get q).account + 1 = _
      omega
    · next e =>
      rw [decide_eq_false (Ne.symm e), Bool.toNat_false] at k
      omega

/-- RESERVE takes the head of the free list (R9). -/
theorem Ledger.Balanced.reserveSlot (h : Ledger.Balanced ⟨s, [], none⟩) {p : Port} {ch : ChannelId} {rest : List SlotId}
    (unreserved : s.reservations.get p = none) (head : s.freeList = i :: rest) :
    Ledger.Balanced ⟨s.reserveSlot p ch i rest, [], none⟩ := by
  have free : (s.slots.get i).use = .free := ((h.listed.free i).1 (head ▸ List.mem_cons_self ..)).2
  have unreferenced : (s.slots.get i).refs = 0 := (h.listed.freeIsZero i).1 free
  have unheld : s.holders i = 0 := ((h.counted i).symm.trans unreferenced :)
  have named := h.named.replace unheld (r := { use := .filling ch p, refs := 1 }) (o' := [i]) (fun _ _ hj => by cases hj)
    (fun m hm => by cases hm) fun _ _ _ => List.mem_singleton.2 rfl
  have filled : Ledger.Balanced
      ⟨{ s with
          freeList := rest
          slots := s.slots.set i { use := .filling ch p, refs := 1 }
          ports := s.ports.modify p fun r => { r with account := r.account + 1 } }, [i], none⟩ := by
    refine ⟨h.listed.reserveHead head, named.congr (fun _ => rfl) rfl rfl rfl rfl rfl fun _ => rfl, fun j => ?_⟩
    show ((s.slots.set i _).get j).refs = s.holders j + [i].count j
    rw [Table.get_set, count_cons_toNat, List.count_nil, Nat.zero_add]
    split
    · next e => rw [e, unheld, decide_eq_true rfl, Bool.toNat_true]
    · next e =>
      rw [decide_eq_false (Ne.symm e), Bool.toNat_false]
      exact h.counted j
  exact (filled.takeReservation unreserved (congrArg Slot.use (Table.get_set_same _ i _))).congr rfl rfl rfl rfl rfl rfl rfl rfl
    (fun _ => rfl) fun _ => rfl

/-- What nobody holds fits any message the engine's record fits. -/
theorem Ledger.Suits.of_unheld {x : Option FanOut} {n : Message} (unheld : s.holders i = 0) (pending : n.phase = .pending → i ∈ o)
    (engine : ∀ f, x = some f → f.request.slot = i → f.fits n)
    (spread : n.phase = .spreading → ∃ f, x = some f ∧ f.request.slot = i) :
    Ledger.Suits ⟨{ s with engine := x }, o, d⟩ i n := by
  obtain ⟨unreserved, unrequested, -, unqueued, unheld, uncurrent⟩ := State.holders_eq_zero.1 unheld
  exact
    { unreserved := unreserved
      unrequested := unrequested
      pending := pending
      engine := engine
      spread := spread
      entry := fun p e he hs => absurd hs (unqueued p e he)
      hold := fun p y hy hs => absurd hs (unheld p y hy)
      current := fun ch hc => absurd hc (uncurrent ch) }

/-- PUBLISH makes the reservation a request (R46). -/
theorem Ledger.Balanced.acceptPublish (h : Ledger.Balanced ⟨s, [], none⟩) {p q : Port} {ch : ChannelId} {d : ChannelDef}
    {a : Words6} (reserved : s.reservation? p = some (i, ch, q)) : Ledger.Balanced ⟨s.acceptPublish p i ch q d a, [], none⟩ := by
  obtain ⟨reserved, use⟩ := State.reservation?_eq_some reserved
  have given := h.giveReservation reserved
  have unrequested := given.named.unrequested_of_filling use
  have unheld := given.named.holders_eq_zero (fun m hm => by cases use.symm.trans hm)
    (fun x hx => by
      rw [PerPort.get_set] at hx
      split at hx
      · cases hx
      · next e =>
        obtain ⟨c, hc⟩ := h.named.reservation x i hx
        obtain ⟨c', hc'⟩ := h.named.reservation p i reserved
        cases hc.symm.trans hc'
        exact e rfl) unrequested
  have pending := given.setMessage (x := s.engine) (o' := [i]) (d' := none)
    (f := fun r =>
      { r with
        use := .message
          { phase := .pending, channel := ch, account := q, seq := (s.channels.get ch).seq + 1, tag := a.w1,
            length := a.w0.toNat, lifetime := countdown d.lifetime } })
    rfl rfl (congrArg SlotUse.account? use)
    (given.named.setMessage rfl (fun _ _ => Iff.rfl) (fun _ _ hj => hj) (fun _ _ _ ha => ha)
      (.of_unheld unheld (fun _ => List.mem_singleton.2 rfl)
        (fun f hf hs => absurd hs ((State.holders_eq_zero.1 unheld).2.2.1 f hf)) fun e => by cases e)) fun _ => rfl
  refine (pending.takeRequest (r := { slot := i, publisher := p, orphaned := false })
    (congrArg Slot.use (State.updSlot_same _ i _)) rfl unrequested).congr rfl rfl rfl rfl rfl rfl rfl rfl
    (congrFun (congrArg Traffic.current (s.updChannel_traffic ch (f := fun c => { c with seq := (s.channels.get ch).seq + 1 }) rfl)))
    (account_modify s.ports p fun _ => rfl)

/-- The engine takes the head request (R52). -/
theorem Ledger.Balanced.takeHead (h : Ledger.Balanced ⟨s, [], none⟩) {r : Request} {rest : List Request} (idle : s.engine = none)
    (head : s.publishQueue = r :: rest) : Ledger.Balanced ⟨s.takeHead r rest, [], none⟩ := by
  obtain ⟨m, use, phase⟩ := h.named.request r (head ▸ List.mem_cons_self ..)
  have given := h.giveRequests (q := rest) (is := [r.slot]) (head ▸ List.sublist_cons_self r rest) fun j => by
    rw [State.requestedFor, head, List.countP_cons, count_cons_toNat, List.count_nil]
    by_cases e : r.slot = j <;> simp [e]
  have once := (List.nodup_cons.1 (by simpa [head] using h.named.onceQueued : ((r :: rest).map fun x => x.slot).Nodup)).1
  have unheld := given.named.holders_eq_zero (fun n hn => by cases use.symm.trans hn; exact phase)
    (given.named.unreserved_of_message use) fun x hx e => once (List.mem_map.2 ⟨x, hx, e⟩)
  refine given.setMessage (i := r.slot) (x := some { request := r, cursor := .visit .A, counts := Counts.zero, expired := false })
    (f := fun x => x.withPhase .spreading) (Slot.withPhase_message use _) ?_ (congrArg SlotUse.account? use)
    (given.named.setMessage (Slot.withPhase_message use _) (fun g hg => ?_) (fun j e hj => absurd (List.mem_singleton.1 hj) e)
      (fun _ _ _ ha => ha) (.of_unheld unheld (fun e => by cases e) (fun f hf _ => .inl rfl) fun _ => ⟨_, rfl, rfl⟩)) fun j => ?_
  · unfold Slot.withPhase
    split <;> rfl
  · refine iff_of_false (fun k => ?_) fun k => by cases idle.symm.trans k
    cases k
    exact hg rfl
  · show _ = (s.engine.any _).toNat + ([r.slot] ++ []).count j
    rw [idle, List.append_nil, count_cons_toNat, List.count_nil]
    simp

/-- The slot in fan-out, until the last port is visited, is SPREADING. -/
theorem Ledger.Named.spreading_of_unfinished (h : Ledger.Named ⟨s, o, d⟩) {f : FanOut} (engine : s.engine = some f)
    (unfinished : f.cursor ≠ .finish) : ∃ m, (s.slots.get f.request.slot).use = .message m ∧ m.phase = .spreading := by
  obtain ⟨m, hm, hp | ⟨-, -, hc⟩⟩ := h.spreading f engine
  · exact ⟨m, hm, hp⟩
  · exact absurd hc unfinished

theorem State.addRef_use (s : State) (i j : SlotId) : ((s.addRef i).slots.get j).use = (s.slots.get j).use := by
  rw [State.addRef, State.updSlot_slots, Table.get_modify]
  split
  · next e => rw [e]
  · rfl

/-- The slot in fan-out is queued (R54). -/
theorem Ledger.Balanced.place (h : Ledger.Balanced ⟨s, [], none⟩) {f : FanOut} {p : Port} {e : Entry} (engine : s.engine = some f)
    (unfinished : f.cursor ≠ .finish) (slot : e.slot = f.request.slot) : Ledger.Balanced ⟨s.place p e, [], none⟩ := by
  obtain ⟨m, use, phase⟩ := h.named.spreading_of_unfinished engine unfinished
  rw [← slot] at use
  exact ((h.addRef (by simp [use])).takeEntry p ((s.addRef_use e.slot e.slot).trans use) (.inl phase)).congr rfl rfl rfl rfl rfl rfl
    rfl rfl (fun _ => rfl) fun _ => rfl

/-- The current values after one is set. -/
theorem State.current?_setCurrent (s : State) {ch : ChannelId} {d : ChannelDef} (defined : (s.channels.get ch).defn = some d)
    (v : Option SlotId) (c : ChannelId) :
    (s.updDefn ch fun e => { e with current := v }).current? c = if c = ch then v else s.current? c := by
  rw [State.updDefn, State.current?_updChannel]
  simp [defined]

/-- The slot in fan-out becomes the current value, in place of the one before (R85). -/
theorem Ledger.Balanced.install (h : Ledger.Balanced ⟨s, [], none⟩) {f : FanOut} {m : Message} {d : ChannelDef}
    (engine : s.engine = some f) (unfinished : f.cursor ≠ .finish) (message : s.message? f.request.slot = some m)
    (defined : s.defn? m.channel = some d) :
    Ledger.Balanced ⟨(s.addRef f.request.slot).updDefn m.channel fun e => { e with current := some f.request.slot },
      (s.current? m.channel).toList, none⟩ := by
  have use := State.message?_eq_some.1 message
  obtain ⟨n, hn, phase⟩ := h.named.spreading_of_unfinished engine unfinished
  cases use.symm.trans hn
  have used : (s.slots.get f.request.slot).use ≠ .free := by simp [use]
  have referenced := (s.addRef_use f.request.slot f.request.slot).trans use
  have defined : (s.channels.get m.channel).defn = some d := defined
  cases value : s.current? m.channel with
  | none => exact (h.addRef used).takeCurrent value (by simp [defined]) referenced (.inl phase)
  | some j =>
    have given := h.giveCurrent (g := fun c => { c with defn := c.defn.map fun e => { e with current := none } }) value
      (by simp [defined])
    have emptied := s.current?_setCurrent defined none
    have undone : (((s.updDefn m.channel fun e => { e with current := none }).addRef f.request.slot).channels.get m.channel).defn =
        some { d with current := none } := by
      show ((s.channels.modify m.channel _).get m.channel).defn = _
      rw [Table.get_modify, if_pos rfl, defined]
      rfl
    have taken := (given.addRef used).takeCurrent (m := m)
      (g := fun c => { c with defn := c.defn.map fun e => { e with current := some f.request.slot } })
      ((emptied m.channel).trans (if_pos rfl))
      (by
        change (Option.map _ (((s.updDefn m.channel _).addRef f.request.slot).channels.get m.channel).defn).bind _ = _
        rw [undone]
        rfl) referenced (.inl phase)
    refine taken.congr rfl rfl rfl rfl rfl rfl rfl rfl (fun c => ?_) fun _ => rfl
    refine ((s.addRef f.request.slot).current?_setCurrent defined (some f.request.slot) c).trans
      (Eq.trans ?_ (State.current?_setCurrent _ undone (some f.request.slot) c).symm)
    split
    · rfl
    · next e => exact ((emptied c).trans (if_neg e)).symm

/-- The engine gives up its request, whose slot settles (R58). -/
theorem Ledger.Balanced.finish (h : Ledger.Balanced ⟨s, [], none⟩) {f : FanOut} (engine : s.engine = some f) :
    Ledger.Balanced ⟨{ s.updSlot f.request.slot Slot.settle with engine := none }, [f.request.slot], none⟩ := by
  obtain ⟨m, use, fits⟩ := h.named.spreading f engine
  have notPending : m.phase ≠ .pending := fun e => by rcases fits with k | ⟨k, -⟩ <;> cases e.symm.trans k
  obtain ⟨n, made, account, channel, phase⟩ :
      ∃ n, (s.slots.get f.request.slot).settle.use = .message n ∧ n.account = m.account ∧ n.channel = m.channel ∧
        ((m.phase = .spreading ∧ n.phase = .live) ∨ (m.phase = .expired ∧ n.phase = .expired)) := by
    rcases (s.slots.get f.request.slot).settle_eq with ⟨x, hx, hp, e⟩ | ⟨hp, e⟩
    · cases use.symm.trans hx
      exact ⟨_, congrArg Slot.use e, rfl, rfl, .inl ⟨hp, rfl⟩⟩
    · refine ⟨m, (congrArg Slot.use e).trans use, rfl, rfl, .inr ?_⟩
      rcases fits with k | ⟨k, -⟩
      · exact absurd k (hp m use)
      · exact ⟨k, k⟩
  have settled : n.phase ≠ .pending ∧ n.phase ≠ .spreading := by
    rcases phase with ⟨-, k⟩ | ⟨-, k⟩ <;> simp [k]
  have alive : Ledger.Alive ⟨s, [], none⟩ f.request.slot m → n.phase = .live := fun ha => by
    rcases phase with ⟨-, k⟩ | ⟨k, -⟩
    · exact k
    · rcases ha.phase with x | x <;> cases k.symm.trans x
  refine h.setMessage made (Slot.settle_refs _) (by rw [use, SlotUse.account?, account])
    (h.named.setMessage made (fun g hg => ?_) (fun _ _ hj => by cases hj) (fun _ _ _ ha => ha) ?_) fun j => ?_
  · refine iff_of_false (fun k => by cases k) fun k => ?_
    cases k.symm.trans engine
    exact hg rfl
  · constructor
    case unreserved => exact h.named.unreserved_of_message use
    case unrequested => exact h.named.unrequested_of_message use notPending
    case pending => exact fun e => absurd e settled.1
    case engine => exact fun g hg => by cases hg
    case spread => exact fun e => absurd e settled.2
    case entry => exact fun p e he hs => .inr (.inl (alive (h.named.alive_of_entry use he hs)))
    case hold => exact fun _ _ _ _ => settled.1
    case current =>
      intro ch hc
      obtain ⟨ha, hch⟩ := h.named.alive_of_current use hc
      exact ⟨.inr (.inl (alive ha)), channel.trans hch⟩
  · rw [State.spreadFor, engine, count_cons_toNat]
    simp

/-! ### Read holds -/

/-- The oldest entry that matches leaves its queue. -/
theorem Ledger.Balanced.pullOldest (h : Ledger.Balanced ⟨s, [], none⟩) {p : Port} {f : Entry → Bool} {e : Entry}
    (oldest : (s.queues.get p).find? f = some e) : Ledger.Balanced ⟨s.pullOldest p f, [e.slot], none⟩ :=
  h.giveEntries (is := [e.slot]) (fun _ hx => List.mem_of_mem_eraseP hx) fun j => by
    rw [count_cons_toNat, List.count_nil, Nat.zero_add]
    exact countP_eraseP oldest _

/-- The oldest entry that matches moves into the empty read hold (R72). -/
theorem Ledger.Balanced.take (h : Ledger.Balanced ⟨s, [], none⟩) {p : Port} {f : Entry → Bool} {e : Entry}
    (empty : s.holds.get p = none) (oldest : (s.queues.get p).find? f = some e) :
    Ledger.Balanced ⟨(s.pullOldest p f).setHold p (some { entry := e, source := .stream, pointer := 0 }), [], none⟩ := by
  obtain ⟨m, use, alive⟩ := h.named.entry p e (List.mem_of_find?_eq_some oldest)
  exact (h.pullOldest oldest).takeHold empty use alive.ne_pending

/-- A current value is read into the empty read hold (R89). -/
theorem Ledger.Balanced.read (h : Ledger.Balanced ⟨s, [], none⟩) {p : Port} {ch : ChannelId} {m : Message}
    (empty : s.holds.get p = none) (current : s.current? ch = some i) (message : s.message? i = some m) :
    Ledger.Balanced ⟨(s.addRef i).setHold p (some { entry := m.entry i, source := .state, pointer := 0 }), [], none⟩ := by
  have use := State.message?_eq_some.1 message
  exact (h.addRef (i := i) (by simp [use])).takeHold (y := { entry := m.entry i, source := .state, pointer := 0 }) empty
    ((s.addRef_use i i).trans use) (h.named.alive_of_current use current).1.ne_pending

/-- A read pointer moves (R76, R77). -/
theorem Ledger.Balanced.readTo (h : Ledger.Balanced ⟨s, [], none⟩) {p : Port} {y : Hold} (held : s.holds.get p = some y) (k : Nat) :
    Ledger.Balanced ⟨s.setHold p (some { y with pointer := k }), [], none⟩ := by
  obtain ⟨m, use, phase⟩ := h.named.hold p y held
  have taken := (h.giveHold held).takeHold (p := p) (y := { y with pointer := k }) (PerPort.get_set_same ..) use phase
  refine taken.congr rfl rfl rfl rfl rfl rfl rfl ?_ (fun _ => rfl) fun _ => rfl
  exact (PerPort.set_set ..).symm

end

end Sys2Proof.Machine
end

section
/-! Every move keeps the pool's invariant; so does every step. -/

namespace Sys2Proof.Machine

/-- Every move keeps the pool's invariant. -/
theorem Move.balanced {l k : Ledger} (move : Move l k) (w : l.Within) (h : l.Balanced) : k.Balanced := by
  cases move
  case quiet s t _ _ same => exact h.of_traffic same
  case release s i rest d => exact h.release (w.owed i (List.mem_cons_self ..))
  case forget s i o d free =>
    have owes := h.counted i
    rw [(h.listed.freeIsZero i).1 free, List.count_cons_self] at owes
    omega
  case idle s p absent =>
    refine h.congr rfl rfl rfl ?_ rfl rfl rfl rfl (fun _ => rfl) fun _ => rfl
    show s.reservations.set p none = s.reservations
    rw [← absent, PerPort.set_get]
  case unreserve s p i reserved =>
    exact (h.giveReservation reserved).congr rfl rfl rfl rfl rfl rfl rfl rfl (fun _ => rfl) fun _ => rfl
  case unqueue s p f d =>
    have given := h.giveEntries (p := p) (q := (s.queues.get p).filter fun e => !f e)
      (is := ((s.queues.get p).filter f).map (·.slot)) (fun e he => List.mem_of_mem_filter he) fun j => by
        rw [count_map_slot, Nat.add_comm]
        exact List.countP_eq_countP_filter_add (s.queues.get p) _ f
    rwa [List.append_nil] at given
  case pull s p f e oldest => exact h.pullOldest oldest
  case unhold s p x held => exact h.giveHold held
  case unrequest s f =>
    have given := h.giveRequests (q := s.publishQueue.filter fun r => !f r) (is := (s.publishQueue.filter f).map (·.slot))
      List.filter_sublist fun j => by
        rw [count_map_slot, Nat.add_comm]
        exact List.countP_eq_countP_filter_add s.publishQueue _ f
    rwa [List.append_nil] at given
  case uncurrent s ch i g d current gone => exact h.giveCurrent current gone
  case orphan s p => exact h.orphanPublishes p
  case tick s => exact h.tick
  case mark s i => exact h.markExpired i
  case expire s i m message phase => exact h.expire (State.message?_eq_some.1 message) phase
  case buried s i ch entries value => exact h.buried entries value
  case reserve s p ch i rest _ unreserved head => exact h.reserveSlot unreserved head
  case publish s p i ch q d a _ reserved _ => exact h.acceptPublish reserved
  case spread s r rest m idle head _ => exact h.takeHead idle head
  case install s f m d spreading unfinished message defined => exact h.install spreading unfinished message defined
  case place s f p e spreading unfinished slot _ => exact h.place spreading unfinished slot
  case advance s f p n spreading unfinished => exact h.advance p n spreading unfinished
  case finish s f spreading => exact h.finish spreading
  case take s p f e _ empty oldest => exact h.take empty oldest
  case read s p ch i m _ empty current message => exact h.read empty current message
  case fillTo => exact h.congr rfl rfl rfl rfl rfl rfl rfl rfl (fun _ => rfl) fun _ => rfl
  case readTo s p y k held _ => exact h.readTo held k
  case start => exact h.congr rfl rfl rfl rfl rfl rfl rfl rfl (fun _ => rfl) fun _ => rfl
  case rebuild s g config => exact h.withGeometry w.state config g
  case reset s => exact s.deviceReset_balanced
  case powerOn s => exact s.powerOn_balanced

/-- Chains of moves keep both invariants. -/
theorem Move.chain_balanced {l k : Ledger} (chain : Relation.ReflTransGen Move l k) (w : l.Within) (h : l.Balanced) :
    k.Balanced := by
  induction chain with
  | refl => exact h
  | tail chain move ih => exact move.balanced (Move.chain_within chain w) ih

/-- Settles O59: a step is a chain of moves, and every move keeps the books balanced. -/
theorem everyStepKeepsThePoolSound : Obligations.EveryStepKeepsThePoolSound := by
  intro s t w sound h
  have start : Ledger.Within ⟨s, [], none⟩ := ⟨w, by simp⟩
  exact (Move.chain_balanced (step_leads w h) start sound.balanced).poolSound

end Sys2Proof.Machine
end

section
/-! The rules of the channel table's operations: what a changed record, a raised event, a trim and the drops and withdrawals of a
close leave to be read. -/

namespace Sys2Proof.Machine

/-! ### Channel records (R22, R24) -/

/-- A defined channel's definition, changed. -/
theorem State.updDefn_of_defn {s : State} {ch : ChannelId} {d : ChannelDef} (h : (s.channels.get ch).defn = some d)
    (f : ChannelDef → ChannelDef) :
    s.updDefn ch f = { s with channels := s.channels.set ch { s.channels.get ch with defn := some (f d) } } := by
  simp [State.updDefn, State.updChannel, Table.modify, h]

/-- The record that `updSub` leaves where it is made. -/
theorem State.sub?_updSub (s : State) (ch : ChannelId) (p : Port) (f : Subscription → Subscription) :
    (s.updSub ch p f).sub? ch p = (s.sub? ch p).map f := by
  unfold State.sub? State.defn? State.updSub
  rw [State.updDefn_channels, Table.get_modify, if_pos rfl]
  cases (s.channels.get ch).defn with
  | none => rfl
  | some d => exact (PerPort.get_modify ..).trans (if_pos rfl)

/-- Whose subscriptions are read depends on the channel table alone. -/
theorem State.sub?_congr {s t : State} (h : t.channels = s.channels) (ch : ChannelId) (p : Port) :
    t.sub? ch p = s.sub? ch p := by
  rw [State.sub?, State.sub?, State.defn?, State.defn?, h]

/-! ### Raised events (R138) -/

@[simp] theorem EventUnit.raise_raise (u : EventUnit) (e : Event) : (u.raise e).raise e = u.raise e := by
  simp [EventUnit.raise, BitVec.or_assoc]

theorem EventUnit.raise_pending (u : EventUnit) (e : Event) : (u.raise e).pending.getLsbD e.number = true := by
  cases e <;> simp [EventUnit.raise, Event.number]

theorem State.raise_events_get (s : State) (p q : Port) (e : Event) :
    (s.raise p e).events.get q = if q = p then (s.events.get q).raise e else s.events.get q := by
  rw [State.raise_events, PerPort.get_modify]
  split
  · next h => rw [h]
  · rfl

/-- An event raised at each port of a list is raised there, however often the list names the port. -/
theorem State.raiseAll_events_get (s : State) (e : Event) (ps : List Port) (q : Port) :
    (s.raiseAll e ps).events.get q = if q ∈ ps then (s.events.get q).raise e else s.events.get q := by
  induction ps generalizing s with
  | nil => simp [State.raiseAll]
  | cons p ps ih =>
    rw [show s.raiseAll e (p :: ps) = (s.raise p e).raiseAll e ps from rfl, ih, State.raise_events_get]
    by_cases h : q = p <;> simp [h]

/-! ### Losing the oldest entries (R26, R32) -/

/-- Of a queue without its oldest matching entry, the matching ones are those behind it. -/
theorem filter_eraseP_self {α : Type} (f : α → Bool) (l : List α) : (l.eraseP f).filter f = (l.filter f).tail := by
  induction l with
  | nil => rfl
  | cons a l ih => cases h : f a <;> simp [h, ih]

/-- The others stay, in their order. -/
theorem filter_not_eraseP {α : Type} (f : α → Bool) (l : List α) :
    (l.eraseP f).filter (fun a => !f a) = l.filter fun a => !f a := by
  induction l with
  | nil => rfl
  | cons a l ih => cases h : f a <;> simp [h, ih]

section
variable (s : State) (p : Port) (ch : ChannelId)

/-- Without an entry of the channel nothing is lost and nothing leaves the queue. -/
theorem State.loseOldest_queues :
    (s.loseOldest p ch).queues.get p = (s.queues.get p).eraseP fun e => decide (e.channel = ch) := by
  unfold State.loseOldest
  split
  · simp [State.pullOldest]
  · next h => exact (List.eraseP_of_forall_not (List.find?_eq_none.1 h)).symm

variable {s p ch}

/-- A loss is counted in the record (R26). -/
theorem State.loseOldest_sub? {e : Entry} (h : (s.queues.get p).find? (fun e => decide (e.channel = ch)) = some e) :
    (s.loseOldest p ch).sub? ch p = (s.sub? ch p).map fun b => { b with lost := saturate b.lost } := by
  unfold State.loseOldest
  rw [h]
  refine (State.sub?_congr (State.raise_channels ..) ch p).trans ((State.sub?_updSub _ ch p _).trans ?_)
  rw [State.sub?_congr (by simp) (s := s)]

/-- A loss raises LOST (R26). -/
theorem State.loseOldest_events {e : Entry} (h : (s.queues.get p).find? (fun e => decide (e.channel = ch)) = some e) :
    ((s.loseOldest p ch).events.get p).pending.getLsbD 7 = true := by
  unfold State.loseOldest
  rw [h]
  simp only [State.countLost, State.raise_events_get, if_true]
  exact EventUnit.raise_pending _ .lost

variable (s p ch)

/-- A trim of one more loses one more after the others. -/
theorem State.trim_succ (k : Nat) : s.trim p ch (k + 1) = (s.trim p ch k).loseOldest p ch := by
  induction k generalizing s with
  | zero => rfl
  | succ k ih => exact ih (s.loseOldest p ch)

/-- A trim takes the oldest entries of the channel. -/
theorem State.trim_queues (k : Nat) :
    ((s.trim p ch k).queues.get p).filter (fun e => decide (e.channel = ch)) =
      ((s.queues.get p).filter fun e => decide (e.channel = ch)).drop k := by
  induction k with
  | zero => rfl
  | succ k ih => rw [State.trim_succ, State.loseOldest_queues, filter_eraseP_self, ih, List.tail_drop]

/-- A trim keeps the entries of the other channels, in their order. -/
theorem State.trim_queues_other (k : Nat) :
    ((s.trim p ch k).queues.get p).filter (fun e => !decide (e.channel = ch)) =
      (s.queues.get p).filter fun e => !decide (e.channel = ch) := by
  induction k with
  | zero => rfl
  | succ k ih => rw [State.trim_succ, State.loseOldest_queues, filter_not_eraseP, ih]

variable {s p ch}

/-- While entries of the channel are left, there is an oldest one to lose. -/
theorem State.trim_find? {k : Nat} (h : k < s.entriesOf p ch) :
    ∃ e, ((s.trim p ch k).queues.get p).find? (fun e => decide (e.channel = ch)) = some e := by
  rw [State.entriesOf, List.countP_eq_length_filter] at h
  have e := s.trim_queues p ch k
  rw [← List.head?_filter, e, List.head?_drop]
  exact ⟨_, List.getElem?_eq_getElem h⟩

/-- Each entry trimmed is counted lost, up to 65535 (R26, R32). -/
theorem State.trim_sub? {k : Nat} {b : Subscription} (h : k ≤ s.entriesOf p ch) (record : s.sub? ch p = some b)
    (bound : b.lost ≤ 65535) : (s.trim p ch k).sub? ch p = some { b with lost := min 65535 (b.lost + k) } := by
  induction k with
  | zero => simpa [State.trim, Nat.min_eq_right bound] using record
  | succ k ih =>
    obtain ⟨e, found⟩ := State.trim_find? (Nat.lt_of_succ_le h)
    have next : saturate (min 65535 (b.lost + k)) = min 65535 (b.lost + (k + 1)) := by
      unfold saturate Config.countMax
      split_ifs <;> omega
    rw [State.trim_succ, State.loseOldest_sub? found, ih (Nat.le_of_succ_le h), Option.map_some, next]

/-- A trim that takes an entry raises LOST. -/
theorem State.trim_events {k : Nat} (h : k ≤ s.entriesOf p ch) (some : k ≠ 0) :
    ((s.trim p ch k).events.get p).pending.getLsbD 7 = true := by
  obtain ⟨k, rfl⟩ := Nat.exists_eq_succ_of_ne_zero some
  obtain ⟨e, found⟩ := State.trim_find? (Nat.lt_of_succ_le h)
  rw [State.trim_succ]
  exact State.loseOldest_events found

end

/-! ### Dropping entries at several ports (R36) -/

/-- What a drop leaves in every queue. -/
theorem State.dropEntries_queues (s : State) (p q : Port) (f : Entry → Bool) :
    (s.dropEntries p f).queues.get q = if q = p then (s.queues.get q).filter fun e => !f e else s.queues.get q := by
  simp only [State.dropEntries, State.releaseAll_frame, State.setQueue_queues, PerPort.get_set]
  split
  · next h => rw [h]
  · rfl

/-- Drops at a row of ports: the queues of those ports keep what does not match. -/
theorem State.dropAll_queues (f : Entry → Bool) (ps : List Port) (s : State) (q : Port) :
    (ps.foldl (fun t p => t.dropEntries p f) s).queues.get q =
      if q ∈ ps then (s.queues.get q).filter fun e => !f e else s.queues.get q := by
  induction ps generalizing s with
  | nil => rfl
  | cons p ps ih =>
    rw [List.foldl_cons, ih, State.dropEntries_queues]
    by_cases h : q = p <;> simp [h]

/-- Drops at a row of ports, none twice, release what they drop, port by port. -/
theorem State.dropAll_pool (f : Entry → Bool) {ps : List Port} (once : ps.Nodup) {s t : State} (h : s.SamePool t) :
    (s.releaseAll (ps.flatMap fun p => ((t.queues.get p).filter f).map fun e => e.slot)).SamePool
      (ps.foldl (fun t p => t.dropEntries p f) t) := by
  induction ps generalizing s t with
  | nil => exact h
  | cons p ps ih =>
    obtain ⟨absent, once⟩ := List.nodup_cons.1 once
    have dropped : (s.releaseAll (((t.queues.get p).filter f).map fun e => e.slot)).SamePool (t.dropEntries p f) :=
      State.samePool_releaseAll _ (State.samePool_trans h ⟨rfl, rfl, rfl, rfl⟩)
    have rest : (ps.flatMap fun q => (((t.dropEntries p f).queues.get q).filter f).map fun e => e.slot) =
        ps.flatMap fun q => ((t.queues.get q).filter f).map fun e => e.slot :=
      List.flatMap_congr fun q hq => by
        rw [State.dropEntries_queues, if_neg (ne_of_mem_of_not_mem hq absent)]
    rw [List.flatMap_cons, State.releaseAll_append, List.foldl_cons, ← rest]
    exact ih once dropped

/-! ### Withdrawing requests (R36, R59, R63) -/

/-- The completion record a withdrawn request leaves: the message's channel and sequence number, all counts 0. -/
def State.recordOf (s : State) (o : PublishOutcome) (r : Request) : Option Completion :=
  (s.message? r.slot).map fun m => { channel := m.channel, seq := m.seq, outcome := o, counts := Counts.zero }

/-- A withdrawn request is recorded at its publisher, unless it is orphaned (R62). -/
def Request.recordedAt (q : Port) (r : Request) : Bool := decide (r.publisher = q) && !r.orphaned

section
variable (s : State) (o : PublishOutcome) (r : Request)

theorem State.complete_completions (p q : Port) (c : Completion) :
    (s.complete p c).completions.get q = if q = p then s.completions.get q ++ [c] else s.completions.get q := by
  simp only [State.complete, State.raise_completions, PerPort.get_modify]
  split
  · next h => rw [h]
  · rfl

/-- The record of a withdrawn request, in the list of its publisher. -/
theorem State.withdraw_completions (q : Port) :
    (s.withdraw o r).completions.get q = s.completions.get q ++ ([r].filter (·.recordedAt q)).filterMap (s.recordOf o) := by
  unfold State.withdraw State.recordOf
  cases message : s.message? r.slot with
  | none => cases r.recordedAt q <;> simp [message]
  | some m =>
    simp only [State.release_frame, State.retire]
    cases orphaned : r.orphaned
    · by_cases h : q = r.publisher
      · simp [State.complete_completions, Request.recordedAt, orphaned, h, message]
      · simp [State.complete_completions, Request.recordedAt, orphaned, h, Ne.symm h]
    · simp [Request.recordedAt, orphaned]

variable {s r} {m : Message}

/-- COMPLETION is raised at the publisher of a withdrawn request that is recorded. -/
theorem State.withdraw_events (message : s.message? r.slot = some m) (q : Port) :
    (s.withdraw o r).events.get q = if r.recordedAt q then (s.events.get q).raise .completion else s.events.get q := by
  unfold State.withdraw
  simp only [message, State.release_frame, State.retire]
  cases orphaned : r.orphaned
  · rw [if_neg Bool.false_ne_true, State.complete, State.raise_events_get]
    simp [Request.recordedAt, orphaned, eq_comm (a := q)]
  · simp [Request.recordedAt, orphaned]

/-- A withdrawal releases the request's slot. -/
theorem State.withdraw_pool (message : s.message? r.slot = some m) : (s.release r.slot).SamePool (s.withdraw o r) := by
  unfold State.withdraw
  rw [message]
  exact State.samePool_release (t := s.retire r m o Counts.zero) (by simp [State.SamePool]) _

/-- A withdrawal leaves the messages of the other slots. -/
theorem State.withdraw_message? {i : SlotId} (h : i ≠ r.slot) : (s.withdraw o r).message? i = s.message? i := by
  unfold State.withdraw
  cases s.message? r.slot with
  | none => rfl
  | some m =>
    have slots : (s.retire r m o Counts.zero).slots = s.slots := by simp
    rw [State.message?_eq, State.release_slots_other _ h, slots, State.message?_eq]

end

/-- What the withdrawal of requests makes of a state: a record and COMPLETION for each that is not orphaned, in the order of the
requests, and a release of each slot. -/
structure State.Withdrawn (s : State) (o : PublishOutcome) (rs : List Request) (t : State) : Prop where
  completions : ∀ q, t.completions.get q = s.completions.get q ++ (rs.filter (·.recordedAt q)).filterMap (s.recordOf o)
  events : ∀ q, t.events.get q = if rs.any (·.recordedAt q) then (s.events.get q).raise .completion else s.events.get q
  pool : (s.releaseAll (rs.map fun r => r.slot)).SamePool t

/-- Requests that name a message each, no two the same slot, are withdrawn one by one: no withdrawal touches the message of the
next. -/
theorem State.withdrawAll_withdrawn (o : PublishOutcome) {rs : List Request} (once : (rs.map fun r => r.slot).Nodup) {s : State}
    (messages : ∀ r ∈ rs, ∃ m, s.message? r.slot = some m) : s.Withdrawn o rs (rs.foldl (fun t r => t.withdraw o r) s) := by
  induction rs generalizing s with
  | nil => exact ⟨fun q => (List.append_nil _).symm, fun q => rfl, State.samePool_refl s⟩
  | cons r rs ih =>
    obtain ⟨fresh, once⟩ := List.nodup_cons.1 once
    obtain ⟨m, message⟩ := messages r (List.mem_cons_self ..)
    have kept : ∀ k ∈ rs, (s.withdraw o r).message? k.slot = s.message? k.slot := fun k hk =>
      State.withdraw_message? o (ne_of_mem_of_not_mem (List.mem_map_of_mem hk) fresh)
    have rest := ih once (s := s.withdraw o r) fun k hk => by
      rw [kept k hk]
      exact messages k (List.mem_cons_of_mem _ hk)
    refine ⟨fun q => ?_, fun q => ?_, ?_⟩
    · have records : (rs.filter (·.recordedAt q)).filterMap ((s.withdraw o r).recordOf o) =
          (rs.filter (·.recordedAt q)).filterMap (s.recordOf o) :=
        List.filterMap_congr fun k hk => by rw [State.recordOf, kept k (List.mem_of_mem_filter hk), State.recordOf]
      rw [List.foldl_cons, rest.completions, State.withdraw_completions, records, List.append_assoc, ← List.filterMap_append,
        ← List.filter_append, List.singleton_append]
    · rw [List.foldl_cons, rest.events, State.withdraw_events o message, List.any_cons]
      cases r.recordedAt q <;> simp
    · rw [List.map_cons, State.releaseAll_cons, List.foldl_cons]
      exact State.samePool_trans (State.samePool_releaseAll _ (State.withdraw_pool o message)) rest.pool

end Sys2Proof.Machine
end

section
/-! Power-on values outside the slot pool, and the tag filter. -/

namespace Sys2Proof.Machine

/-- Settles O4: every record is read off the power-on state. -/
theorem powerOnResetSetsTheOtherBlocks : Obligations.PowerOnResetSetsTheOtherBlocks := by
  intro s
  refine ⟨s.powerOn, rfl, fun ch => ?_, fun l => Table.get_replicate _ l, fun p => PerPort.get_all _ p, rfl, rfl,
    fun p => PerPort.get_all _ p, fun p => ⟨PerPort.get_all _ p, PerPort.get_all _ p⟩, rfl, fun p => PerPort.get_all _ p,
    fun p => PerPort.get_all _ p, fun p => ?_, rfl, rfl, rfl, rfl, rfl⟩
  · have e : s.powerOn.channels.get ch = Channel.powerOn := Table.get_replicate _ ch
    rw [e]
    exact ⟨rfl, rfl, rfl, rfl⟩
  · have e : s.powerOn.windows.get p = Window.powerOn := PerPort.get_all _ p
    rw [e]
    exact ⟨rfl, rfl, rfl, rfl, rfl, rfl, rfl, rfl, rfl⟩

/-- A masked difference is 0 when no masked position differs (R25). -/
theorem Subscription.accepts_iff (b : Subscription) (tag : Word) :
    b.accepts tag = true ↔ ∀ j, b.tagMask.getLsbD j = true → tag.getLsbD j = b.tagMatch.getLsbD j := by
  have position : ∀ j, (((tag ^^^ b.tagMatch) &&& b.tagMask).getLsbD j = false) ↔
      (b.tagMask.getLsbD j = true → tag.getLsbD j = b.tagMatch.getLsbD j) := by
    intro j
    rw [BitVec.getLsbD_and, BitVec.getLsbD_xor]
    cases b.tagMask.getLsbD j <;> simp
  simp only [Subscription.accepts, decide_eq_true_eq, ← position]
  exact ⟨fun h j => by simp [h], fun h => BitVec.eq_of_getLsbD_eq fun j _ => by simp [h j]⟩

/-- Settles O25: by the masked positions, of which mask 0 has none and FFFFh all sixteen. -/
theorem tagFilterComparesTheMaskedPositions : Obligations.TagFilterComparesTheMaskedPositions := by
  refine fun b tag => ⟨b.accepts_iff tag, fun none => ?_, fun all => ?_⟩
  · simp [Subscription.accepts, none]
  · have masked : ∀ j, j < 16 → b.tagMask.getLsbD j = true := fun j hj => by
      rw [all, show (0xFFFF : Word) = BitVec.allOnes 16 from rfl, BitVec.getLsbD_allOnes]
      exact decide_eq_true hj
    rw [b.accepts_iff]
    exact ⟨fun h => BitVec.eq_of_getLsbD_eq fun j hj => h j (masked j hj), fun h j _ => by rw [h]⟩

end Sys2Proof.Machine
end

section
/-! What a close of a channel does, step by step, against its statement (R36, R38). -/

namespace Sys2Proof.Machine

section
variable {s : State} {ch : ChannelId} {d : ChannelDef}

/-! ### The steps of a close -/

/-- A close of a defined channel, its steps in order (R36). -/
theorem State.closeChannel_eq (defined : s.defn? ch = some d) :
    s.closeChannel ch =
      ((((s.closeRequests ch).closeEntries ch).closeCurrent d).updChannel ch fun c => { c with defn := none }).raiseAll .channel
        (s.attachedSubscribers d) := by
  rw [State.closeChannel, defined]

theorem State.mem_attachedSubscribers {q : Port} :
    q ∈ s.attachedSubscribers d ↔ ((d.subs.get q).isSome && s.attached q) = true := by
  simp [State.attachedSubscribers, Port.mem_all]

/-- The requests of other channels stay (R36, step 1). -/
theorem State.closeRequests_publishQueue (s : State) (ch : ChannelId) :
    (s.closeRequests ch).publishQueue = s.publishQueue.filter fun r => !s.requestOn ch r := by
  simp [State.closeRequests]

/-- Where no two requests name one slot (R50), the requests of the channel are withdrawn one by one (R36, step 1). -/
theorem State.closeRequests_withdrawn (ch : ChannelId) (once : (s.publishQueue.map fun r => r.slot).Nodup) :
    s.Withdrawn .channelClosed (s.publishQueue.filter (s.requestOn ch)) (s.closeRequests ch) := by
  obtain ⟨completions, events, pool⟩ := State.withdrawAll_withdrawn .channelClosed
    (s := { s with publishQueue := s.publishQueue.filter fun r => !s.requestOn ch r })
    (once.sublist (List.filter_sublist.map _)) fun r hr => by
      obtain ⟨m, message, -⟩ := (Option.any_eq_true _ _).1 (List.mem_filter.1 hr).2
      exact ⟨m, message⟩
  have start : s.SamePool { s with publishQueue := s.publishQueue.filter fun r => !s.requestOn ch r } := ⟨rfl, rfl, rfl, rfl⟩
  exact ⟨completions, events, State.samePool_trans (State.samePool_releaseAll _ start) pool⟩

/-- Entries of other channels stay (R36, step 2). -/
theorem State.closeEntries_queues (s : State) (ch : ChannelId) (q : Port) :
    (s.closeEntries ch).queues.get q = (s.queues.get q).filter fun e => !decide (e.channel = ch) :=
  (State.dropAll_queues _ Port.all s q).trans (if_pos q.mem_all)

/-- The current value is released, if present (R36, step 3). -/
theorem State.closeCurrent_eq (s : State) (d : ChannelDef) : s.closeCurrent d = s.releaseAll d.current.toList := by
  unfold State.closeCurrent
  cases d.current <;> rfl

/-- The references a close releases: request by request, entry by entry in port order, then the current value's (R36). -/
theorem State.closeChannel_pool (defined : s.defn? ch = some d) (once : (s.publishQueue.map fun r => r.slot).Nodup) :
    (s.releaseAll (((s.publishQueue.filter (s.requestOn ch)).map fun r => r.slot) ++
      (Port.all.flatMap fun q => ((s.queues.get q).filter fun e => decide (e.channel = ch)).map fun e => e.slot) ++
      d.current.toList)).SamePool (s.closeChannel ch) := by
  have queues : (s.closeRequests ch).queues = s.queues := by simp
  have entries := State.dropAll_pool (fun e => decide (e.channel = ch)) Port.nodup_all (s.closeRequests_withdrawn ch once).pool
  rw [queues, ← State.releaseAll_append] at entries
  rw [State.closeChannel_eq defined, State.closeCurrent_eq, State.releaseAll_append]
  exact State.samePool_trans (State.samePool_releaseAll _ entries) (by simp [State.SamePool, State.closeEntries])

/-- What a close raises: what its withdrawals raise, then CHANNEL at every former subscriber that is ATTACHED. -/
theorem State.closeChannel_events (defined : s.defn? ch = some d) (q : Port) :
    (s.closeChannel ch).events.get q =
      if (d.subs.get q).isSome && s.attached q then ((s.closeRequests ch).events.get q).raise .channel
      else (s.closeRequests ch).events.get q := by
  rw [State.closeChannel_eq defined, State.raiseAll_events_get]
  simp only [State.mem_attachedSubscribers, State.updChannel_events, State.closeCurrent_frame, State.closeEntries_frame]

/-- Flags 4 and 9, raised where the conditions hold. -/
theorem EventUnit.raise_completion_channel (u : EventUnit) (recorded told : Bool) :
    (if told then (if recorded then u.raise .completion else u).raise .channel else if recorded then u.raise .completion else u) =
      { u with pending := u.pending ||| (if recorded then 16#12 else 0#12) ||| if told then 512#12 else 0#12 } := by
  cases told <;> cases recorded <;> simp [EventUnit.raise, Event.number, BitVec.twoPow]

end

/-- Settles O40: step by step; the withdrawals are those of `State.Withdrawn`, and later steps make no record. -/
theorem closedChannelLeavesNothing : Obligations.ClosedChannelLeavesNothing := by
  intro s ch d defined
  have closed := State.closeChannel_eq (ch := ch) defined
  intro t gone told recorded entries released
  refine ⟨?_, ?_, fun q => ?_, fun q htold => ?_, fun once => ?_, by simp [t]⟩
  · simp only [t, closed, State.raiseAll_frame, State.updChannel_channels, State.closeCurrent_frame, State.closeEntries_frame,
      State.closeRequests_frame]
    rfl
  · simp only [t, closed, State.raiseAll_frame, State.updChannel_publishQueue, State.closeCurrent_frame,
      State.closeEntries_frame, State.closeRequests_publishQueue]
    rfl
  · simp only [t, closed, State.raiseAll_frame, State.updChannel_queues, State.closeCurrent_frame, State.closeEntries_queues,
      State.closeRequests_frame, decide_not]
  · simp only [t, State.closeChannel_events defined]
    rw [if_pos htold]
    exact EventUnit.raise_pending _ .channel
  · have withdrawn := s.closeRequests_withdrawn ch once
    obtain ⟨slots, freeList, ports, due⟩ := State.closeChannel_pool defined once
    refine ⟨fun q => ?_, fun q => ?_, ?_⟩
    · have records : (recorded q).filterMap (s.recordOf .channelClosed) = (recorded q).filterMap fun r =>
          (s.message? r.slot).map fun m => { channel := ch, seq := m.seq, outcome := .channelClosed, counts := Counts.zero } :=
        List.filterMap_congr fun r hr => by
          obtain ⟨m, message, own⟩ := (Option.any_eq_true _ _).1 (List.mem_filter.1 (List.mem_of_mem_filter hr)).2
          simp [State.recordOf, message, of_decide_eq_true own]
      simp only [t, closed, State.raiseAll_frame, State.updChannel_completions, State.closeCurrent_frame,
        State.closeEntries_frame, withdrawn.completions]
      exact congrArg _ records
    · have some_recorded : gone.any (·.recordedAt q) = !decide (recorded q = []) := by
        rw [Bool.eq_iff_iff, List.any_eq_true]
        simp [recorded, Request.recordedAt]
      simp only [t, State.closeChannel_events defined, withdrawn.events]
      refine (EventUnit.raise_completion_channel _ _ (told q)).trans ?_
      rw [show (s.publishQueue.filter (s.requestOn ch)).any (·.recordedAt q) = _ from some_recorded]
      simp
    · have order : Port.all.flatMap (fun q => (entries q).map fun e => e.slot) =
          (entries .A ++ entries .B ++ entries .C ++ entries .D).map fun e => e.slot := by
        simp [Port.all]
      have same : released = s.releaseAll (gone.map (fun r => r.slot) ++
          Port.all.flatMap (fun q => (entries q).map fun e => e.slot) ++ d.current.toList) := by
        rw [order]
      rw [same]
      exact ⟨slots, freeList, ports, due⟩

end Sys2Proof.Machine
end

section
/-! DEFINE_CHANNEL, SET_CHANNEL, SUSPEND, RESUME, FREEZE_CHANNEL and CLOSE, accepted, each against its statement. -/

namespace Sys2Proof.Machine

section
variable {s : State} {p : Port} {a : Words6} {ch : ChannelId} {d : ChannelDef}

/-! ### Checks that pass (R27, R29 to R31) -/

/-- Checks 1 to 3 of R27 pass, and the command's own come next. -/
theorem State.configCheck_of_none {l : List (Bool × Response × Words6)} (h : judge (s.authorityChecks p a ++ l) = none) :
    s.configCheck p a = none ∧ judge l = none := by
  obtain ⟨authority, own⟩ := judge_append_none h
  rw [State.judge_authorityChecks] at authority
  exact ⟨Option.map_eq_none_iff.1 authority, own⟩

theorem State.channelJudge_of_val (h : s.configCheck p a = none) (number : a.w0.toNat = ch.val) :
    s.channelJudge p a = .ok ch := by
  rw [State.channelJudge, h, channel?_of_val number]

theorem State.openJudge_of_openChecks {l : List (Bool × Response × Words6)} (h : judge (s.openChecks ch.val ++ l) = none)
    (defined : s.defn? ch = some d) : s.openJudge ch = .ok d ∧ judge l = none := by
  obtain ⟨hopen, rest⟩ := judge_append_none h
  obtain ⟨-, hopen⟩ := judge_cons_none hopen
  obtain ⟨unfrozen, hopen⟩ := judge_cons_none hopen
  obtain ⟨notClosing, -⟩ := judge_cons_none hopen
  rw [State.frozenAt_val] at unfrozen
  rw [State.channelAt_val, defined, Option.any_some] at notClosing
  simp only [decide_eq_false_iff_not] at notClosing
  exact ⟨by simp [State.openJudge, defined, unfrozen, notClosing], rest⟩

theorem kind?_of_le {w : Word} (h : w.toNat ≤ 1) : kind? w = some (if w = 0 then .stream else .state) := by
  unfold kind?
  split_ifs with h0 h1
  · rfl
  · rfl
  · exact absurd (kind?_none.1 (by rw [kind?, if_neg h0, if_neg h1])) (Nat.not_lt.2 h)

theorem publishers?_of_le {w : Word} (h : w.toNat ≤ 15) : publishers? w = some (w.extractLsb' 0 4) :=
  if_pos (Nat.lt_succ_of_le h)

theorem depthPolicy?_of_le {w : Word} (depth : w.toNat % 256 ≤ 16) (policy : w.toNat / 256 ≤ 1) :
    depthPolicy? w = some (if w.toNat % 256 = 0 then 4 else w.toNat % 256,
      if w.toNat / 256 = 0 then .keepOldest else .keepNewest) := by
  have hd : depth? (lowByte w) = some (if w.toNat % 256 = 0 then 4 else w.toNat % 256) := by
    unfold depth? lowByte Config.defaultDepth Config.depthMax
    split_ifs <;> rfl
  have hp : policy? (highByte w) = some (if w.toNat / 256 = 0 then .keepOldest else .keepNewest) := by
    by_cases zero : w.toNat / 256 = 0
    · simp [policy?, highByte, zero]
    · have one : w.toNat / 256 = 1 := by omega
      simp [policy?, highByte, one]
  rw [depthPolicy?, hd, hp]

/-- The channel and the port of a word, as its two bytes. -/
theorem bytes_of_channelPort {n : Nat} {q : Port} (h : n = ch.val + 256 * q.index) : n % 256 = ch.val ∧ n / 256 = q.index := by
  have h1 := ch.isLt
  omega

/-! ### DEFINE_CHANNEL and SET_CHANNEL (R29, R30) -/

theorem State.defineChannelAnswer_of_none (h : judge (s.configurationChecks .defineChannel p a) = none)
    (number : a.w0.toNat = ch.val) :
    s.defineChannelAnswer p a =
      (s.updChannel ch fun c =>
        { c with
          defn := some
            { phase := .active, kind := if a.w1 = 0 then .stream else .state, publishers := a.w2.extractLsb' 0 4
              lifetime := a.w3.toNat, subs := PerPort.all none, current := none } }).answer .ok
        { w0 := (s.channels.get ch).seq } := by
  obtain ⟨authority, h⟩ := State.configCheck_of_none h
  obtain ⟨range, h⟩ := judge_cons_none h
  obtain ⟨unused, -⟩ := judge_cons_none h
  simp only [decide_eq_false_iff_not, not_or, Nat.not_lt] at range
  obtain ⟨-, kind, publishers⟩ := range
  rw [number, State.channelAt_val] at unused
  simp only [State.defineChannelAnswer, State.channelJudge_of_val authority number, kind?_of_le kind,
    publishers?_of_le publishers, Option.isNone_iff_eq_none.1 (Option.isSome_eq_false_iff.1 unused)]

theorem State.setChannelAnswer_of_none (h : judge (s.configurationChecks .setChannel p a) = none)
    (number : a.w0.toNat = ch.val) (defined : s.defn? ch = some d) :
    s.setChannelAnswer p a =
      (s.updDefn ch fun d => { d with publishers := a.w2.extractLsb' 0 4, lifetime := a.w3.toNat }).answer .ok := by
  obtain ⟨authority, h⟩ := State.configCheck_of_none h
  obtain ⟨range, h⟩ := judge_cons_none h
  simp only [decide_eq_false_iff_not, not_or, Nat.not_lt] at range
  rw [number, ← List.append_nil (s.openChecks _)] at h
  obtain ⟨openFor, -⟩ := State.openJudge_of_openChecks h defined
  simp only [State.setChannelAnswer, State.channelJudge_of_val authority number, publishers?_of_le range.2, openFor]

end

/-- Settles O36: no check refuses, so each answer changes the channel's record alone. -/
theorem channelsAreDefinedAndReconfigured : Obligations.ChannelsAreDefinedAndReconfigured := by
  intro s p a ch number
  refine ⟨fun hi hj => ?_, fun d hi hj defined => ?_⟩
  · exact exec_of_answer (c := .defineChannel) hi (State.defineChannelAnswer_of_none hj number)
  · have answer := State.setChannelAnswer_of_none hj number defined
    rw [State.updDefn_of_defn defined] at answer
    exact exec_of_answer (c := .setChannel) hi answer

/-! ### SUSPEND, RESUME and FREEZE_CHANNEL (R35, R39) -/

section
variable {s : State} {p : Port} {a : Words6} {ch : ChannelId} {d : ChannelDef}

/-- The channel in ARG0 is defined; what is left is the command's check of its phase (R35, R36). -/
theorem State.phase_of_none {f : ChannelDef → Bool} {r : Response} {l : List (Bool × Response × Words6)}
    (h : judge (on (31 < a.w0.toNat) .badArgument :: on (s.channelAt a.w0.toNat).isNone .noChannel ::
      on ((s.channelAt a.w0.toNat).any f) r :: l) = none)
    (number : a.w0.toNat = ch.val) (defined : s.defn? ch = some d) : f d = false := by
  obtain ⟨-, h⟩ := judge_cons_none h
  obtain ⟨-, h⟩ := judge_cons_none h
  obtain ⟨phase, -⟩ := judge_cons_none h
  rwa [number, State.channelAt_val, defined] at phase

theorem State.suspendAnswer_of_none (h : judge (s.configurationChecks .suspend p a) = none) (number : a.w0.toNat = ch.val)
    (defined : s.defn? ch = some d) : s.suspendAnswer p a = (s.setPhase ch d .suspended).answer .ok := by
  obtain ⟨authority, h⟩ := State.configCheck_of_none h
  have active : d.phase = .active := by simpa using State.phase_of_none h number defined
  simp only [State.suspendAnswer, State.channelJudge_of_val authority number, defined, active, if_true]

theorem State.resumeAnswer_of_none (h : judge (s.configurationChecks .resume p a) = none) (number : a.w0.toNat = ch.val)
    (defined : s.defn? ch = some d) : s.resumeAnswer p a = (s.setPhase ch d .active).answer .ok := by
  obtain ⟨authority, h⟩ := State.configCheck_of_none h
  have suspended : d.phase = .suspended := by simpa using State.phase_of_none h number defined
  simp only [State.resumeAnswer, State.channelJudge_of_val authority number, defined, suspended, if_true]

theorem State.freezeChannelAnswer_of_none (h : judge (s.configurationChecks .freezeChannel p a) = none)
    (number : a.w0.toNat = ch.val) (defined : s.defn? ch = some d) :
    s.freezeChannelAnswer p a = (s.updChannel ch fun c => { c with frozen := true }).answer .ok := by
  obtain ⟨authority, h⟩ := State.configCheck_of_none h
  obtain ⟨-, h⟩ := judge_cons_none h
  obtain ⟨unfrozen, h⟩ := judge_cons_none h
  obtain ⟨-, h⟩ := judge_cons_none h
  obtain ⟨phase, -⟩ := judge_cons_none h
  rw [number, State.frozenAt_val] at unfrozen
  rw [number, State.channelAt_val, defined, Option.any_some] at phase
  have notClosing : d.phase ≠ .closing := by simpa using phase
  simp [State.freezeChannelAnswer, State.channelJudge_of_val authority number, unfrozen, defined, notClosing]

/-- A phase change of a defined channel, with CHANNEL at its ATTACHED subscribers (R35). -/
theorem State.setPhase_of_defn (defined : (s.channels.get ch).defn = some d) (phase : ChannelPhase) :
    s.setPhase ch d phase =
      ({ s with
        channels := s.channels.set ch { s.channels.get ch with defn := some { d with phase := phase } } } : State).raiseAll
        .channel (s.attachedSubscribers d) := by
  rw [State.setPhase, State.updDefn_of_defn defined]

end

/-- Settles O38: no check refuses, and a phase change is `State.setPhase_of_defn`. -/
theorem channelsAreSuspendedResumedAndFrozen : Obligations.ChannelsAreSuspendedResumedAndFrozen := by
  intro s p a ch d number defined
  refine ⟨fun hi hj => ?_, fun hi hj => ?_, fun hi hj => ?_⟩
  · have answer := State.suspendAnswer_of_none hj number defined
    rw [State.setPhase_of_defn defined] at answer
    exact exec_of_answer (c := .suspend) hi answer
  · have answer := State.resumeAnswer_of_none hj number defined
    rw [State.setPhase_of_defn defined] at answer
    exact exec_of_answer (c := .resume) hi answer
  · exact exec_of_answer (c := .freezeChannel) hi (State.freezeChannelAnswer_of_none hj number defined)

/-! ### CLOSE (R36, R37) -/

/-- CLOSE of a defined channel, accepted: by the channel's phase and the engine (R36, R37). -/
theorem State.closeAnswer_of_none {s : State} {p : Port} {a : Words6} {ch : ChannelId} {d : ChannelDef}
    (h : judge (s.configurationChecks .close p a) = none) (number : a.w0.toNat = ch.val) (defined : s.defn? ch = some d) :
    s.closeAnswer p a =
      if d.phase = .closing then s.answer .closePending
      else if s.spreadingOn ch then (s.updDefn ch fun e => { e with phase := .closing }).answer .closePending
      else
        (s.closeChannel ch).answer .ok
          { w0 := toWord (s.publishQueue.countP (s.requestOn ch))
            w1 := toWord ((Port.all.map fun q => s.entriesOf q ch).sum) } := by
  obtain ⟨authority, h⟩ := State.configCheck_of_none h
  obtain ⟨-, h⟩ := judge_cons_none h
  obtain ⟨-, h⟩ := judge_cons_none h
  obtain ⟨unfrozen, -⟩ := judge_cons_none h
  rw [number, State.frozenAt_val] at unfrozen
  simp [State.closeAnswer, State.channelJudge_of_val authority number, defined, unfrozen, Port.all, Nat.add_assoc]

/-- Settles O39: the three branches of an accepted CLOSE. -/
theorem closeActsAtOnceOrIsDeferred : Obligations.CloseActsAtOnceOrIsDeferred := by
  intro s p a ch d hi hj number defined
  have answer := State.closeAnswer_of_none hj number defined
  refine ⟨fun closing => ?_, fun notClosing (spreads : s.spreadingOn ch = true) => ?_,
    fun notClosing (spreads : s.spreadingOn ch = false) => ?_⟩
  · rw [if_pos closing] at answer
    exact exec_of_answer (c := .close) hi answer
  · rw [if_neg notClosing, if_pos spreads, State.updDefn_of_defn defined] at answer
    exact exec_of_answer (c := .close) hi answer
  · rw [if_neg notClosing, if_neg (Bool.eq_false_iff.1 spreads)] at answer
    exact exec_of_answer (c := .close) hi answer

end Sys2Proof.Machine
end

section
/-! SUBSCRIBE and UNSUBSCRIBE, against their statement. -/

namespace Sys2Proof.Machine

section
variable {s : State} {p q : Port} {a : Words6} {ch : ChannelId} {d : ChannelDef}

/-- The depth that ARG1 of SUBSCRIBE selects (R31). -/
def depthOf (w : Word) : Nat := if w.toNat % 256 = 0 then 4 else w.toNat % 256

/-- The overflow policy that ARG1 of SUBSCRIBE selects (R31). -/
def policyOf (w : Word) : Policy := if w.toNat / 256 = 0 then .keepOldest else .keepNewest

/-- A record with its settings replaced, its counts and NEW flag kept (R32). -/
def Subscription.withSettings (b : Subscription) (a : Words6) : Subscription :=
  { b with depth := depthOf a.w1, policy := policyOf a.w1, tagMatch := a.w2, tagMask := a.w3 }

/-- The checks of SUBSCRIBE pass: ARG0 and ARG1 name a channel, a port, a depth and a policy, and the channel takes changes (R31). -/
theorem State.subscribe_checked (h : judge (s.configurationChecks .subscribe p a) = none)
    (named : a.w0.toNat = ch.val + 256 * q.index) (defined : s.defn? ch = some d) :
    s.configCheck p a = none ∧ channelPort? a.w0 = some (ch, q) ∧ depthPolicy? a.w1 = some (depthOf a.w1, policyOf a.w1) ∧
      s.openJudge ch = .ok d := by
  obtain ⟨authority, h⟩ := State.configCheck_of_none h
  obtain ⟨range, h⟩ := judge_cons_none h
  simp only [decide_eq_false_iff_not, not_or, Nat.not_lt] at range
  obtain ⟨-, -, depth, policy⟩ := range
  rw [(bytes_of_channelPort named).1, ← List.append_nil (s.openChecks _)] at h
  exact ⟨authority, channelPort?_of_val named, depthPolicy?_of_le depth policy, (State.openJudge_of_openChecks h defined).1⟩

/-- SUBSCRIBE of a port without a record creates one (R31). -/
theorem State.subscribeAnswer_create (h : judge (s.configurationChecks .subscribe p a) = none)
    (named : a.w0.toNat = ch.val + 256 * q.index) (defined : s.defn? ch = some d) (absent : d.subs.get q = none) :
    s.subscribeAnswer p a =
      (s.setSub ch q (some (Subscription.create (depthOf a.w1) (policyOf a.w1) a.w2 a.w3))).answer .ok := by
  obtain ⟨authority, channelPort, depthPolicy, openFor⟩ := State.subscribe_checked h named defined
  simp only [State.subscribeAnswer, authority, channelPort, depthPolicy, openFor, absent]

/-- SUBSCRIBE of a port with a record replaces it and trims the excess (R32). -/
theorem State.subscribeAnswer_replace {b : Subscription} (h : judge (s.configurationChecks .subscribe p a) = none)
    (named : a.w0.toNat = ch.val + 256 * q.index) (defined : s.defn? ch = some d) (present : d.subs.get q = some b) :
    s.subscribeAnswer p a =
      ((s.setSub ch q (some (b.withSettings a))).trim q ch (s.excess q ch d.kind (depthOf a.w1))).answer .ok
        { w0 := toWord (s.excess q ch d.kind (depthOf a.w1)), w1 := 1 } := by
  obtain ⟨authority, channelPort, depthPolicy, openFor⟩ := State.subscribe_checked h named defined
  simp only [State.subscribeAnswer, authority, channelPort, depthPolicy, openFor, present, Subscription.withSettings]

/-- The excess over the depth, on a STREAM channel alone (R32). -/
theorem State.excess_eq (s : State) (q : Port) (ch : ChannelId) (kind : ChannelKind) (depth : Nat) :
    s.excess q ch kind depth = if kind = .stream then s.entriesOf q ch - depth else 0 := by
  cases kind <;> rfl

theorem State.excess_le (s : State) (q : Port) (ch : ChannelId) (kind : ChannelKind) (depth : Nat) :
    s.excess q ch kind depth ≤ s.entriesOf q ch := by
  cases kind
  · exact Nat.sub_le ..
  · exact Nat.zero_le _

/-- A subscription record of a defined channel, set or removed. -/
theorem State.setSub_of_defn (defined : (s.channels.get ch).defn = some d) (b : Option Subscription) :
    s.setSub ch q b =
      { s with
        channels := s.channels.set ch { s.channels.get ch with defn := some { d with subs := d.subs.set q b } } } :=
  State.updDefn_of_defn defined _

theorem State.sub?_setSub (defined : s.defn? ch = some d) (b : Option Subscription) : (s.setSub ch q b).sub? ch q = b := by
  rw [State.setSub_of_defn defined, State.sub?, State.defn?]
  simp

/-- UNSUBSCRIBE, accepted: the port's entries of the channel are dropped, then the record is removed (R34). -/
theorem State.unsubscribeAnswer_of_none (h : judge (s.configurationChecks .unsubscribe p a) = none)
    (named : a.w0.toNat = ch.val + 256 * q.index) (defined : s.defn? ch = some d) :
    s.unsubscribeAnswer p a =
      ((s.dropEntries q fun e => decide (e.channel = ch)).setSub ch q none).answer .ok { w0 := toWord (s.entriesOf q ch) } := by
  obtain ⟨authority, h⟩ := State.configCheck_of_none h
  obtain ⟨-, h⟩ := judge_cons_none h
  obtain ⟨low, high⟩ := bytes_of_channelPort named
  rw [low, high] at h
  obtain ⟨openFor, h⟩ := State.openJudge_of_openChecks h defined
  obtain ⟨subscribed, -⟩ := judge_cons_none h
  rw [State.subAt_val, State.sub?, defined] at subscribed
  obtain ⟨b, present⟩ : ∃ b, d.subs.get q = some b := by simpa [Option.isSome_iff_exists] using subscribed
  simp only [State.unsubscribeAnswer, authority, channelPort?_of_val named, openFor, present]

end

/-- Settles O37: no check refuses; what a trim does is said by `State.trim_queues`, `State.trim_sub?` and `State.trim_events`. -/
theorem subscriptionsAreMadeTrimmedAndRemoved : Obligations.SubscriptionsAreMadeTrimmedAndRemoved := by
  intro s p a ch q d named defined
  refine ⟨fun hi hj absent => ?_, fun b hi hj present bound => ?_, fun hi hj => ?_⟩
  · have answer := State.subscribeAnswer_create hj named defined absent
    rw [State.setSub_of_defn defined] at answer
    exact exec_of_answer (c := .subscribe) hi answer
  · have answer := State.subscribeAnswer_replace hj named defined present
    have record := State.sub?_setSub (q := q) defined (some (b.withSettings a))
    have within : s.excess q ch d.kind (depthOf a.w1) ≤ (s.setSub ch q (some (b.withSettings a))).entriesOf q ch :=
      s.excess_le q ch d.kind (depthOf a.w1)
    rw [State.setSub_of_defn defined] at answer record within
    rw [State.excess_eq] at answer within
    exact ⟨exec_of_answer (c := .subscribe) hi answer, State.trim_queues _ q ch _, State.trim_queues_other _ q ch _,
      State.trim_sub? within record bound, State.trim_events within⟩
  · have answer := State.unsubscribeAnswer_of_none hj named defined
    have channels : (s.dropEntries q fun e => decide (e.channel = ch)).channels = s.channels := by simp
    rw [State.setSub_of_defn (d := d) (by rw [channels, defined]), channels, State.entriesOf,
      List.countP_eq_length_filter] at answer
    exact exec_of_answer (c := .unsubscribe) hi answer

end Sys2Proof.Machine
end

section
/-! The four queries of records, against their statement. -/

namespace Sys2Proof.Machine

/-- A Boolean as a number of its own weight. -/
theorem mul_toNat_bool (n : Nat) (b : Bool) : n * b.toNat = if b then n else 0 := by cases b <;> simp

/-- A port set as a number: 1, 2, 4 and 8 for A, B, C and D (R40). -/
theorem portBits_eq (f : Port → Bool) :
    portBits f = (if f .A then 1 else 0) + (if f .B then 2 else 0) + (if f .C then 4 else 0) + if f .D then 8 else 0 := by
  rw [portBits, mul_toNat_bool, mul_toNat_bool, mul_toNat_bool, ← Nat.one_mul (f .A).toNat, mul_toNat_bool]

/-- The codes of the channel states (R40). -/
theorem ChannelPhase.toWord_code (x : ChannelPhase) :
    toWord x.code = match x with | .active => 1 | .suspended => 2 | .closing => 3 := by
  cases x <;> rfl

/-- The codes of the channel kinds (R40). -/
theorem ChannelKind.toWord_code (x : ChannelKind) : toWord x.code = if x = .state then 1 else 0 := by cases x <;> rfl

/-- The frozen flag in the high byte of RESULT5 (R40). -/
theorem bytesWord_frozen (b : Bool) : bytesWord 0 b.toNat = if b then 0x0100 else 0 := by cases b <;> rfl

section
variable {s : State} {p : Port} {a : Words6}

theorem State.queryChannelAnswer_of_none {ch : ChannelId} (h : judge (s.controlChecks .queryChannel p a) = none)
    (number : a.w0.toNat = ch.val) : s.queryChannelAnswer p a = s.answer .ok (s.channels.get ch).results := by
  have att := State.attached_of_portChecks (judge_append_none h).1
  simp only [State.queryChannelAnswer, State.absence_of_attached att, channel?_of_val number]

/-- QUERY_SUBSCRIPTION, accepted: zeros, or the record with its counts cleared on request (R41). -/
theorem State.querySubscriptionAnswer_of_none {ch : ChannelId} {q : Port}
    (h : judge (s.controlChecks .querySubscription p a) = none) (named : a.w0.toNat = ch.val + 256 * q.index) :
    s.querySubscriptionAnswer p a =
      match s.sub? ch q with
      | none => s.answer .ok
      | some b => (if a.w1 = 1 then s.updSub ch q Subscription.clearCounts else s).answer .ok b.results := by
  obtain ⟨hport, h⟩ := judge_append_none h
  obtain ⟨range, -⟩ := judge_cons_none h
  have port := (bytes_of_channelPort named).2
  rw [port] at range
  simp only [decide_eq_false_iff_not, not_or] at range
  obtain ⟨-, -, request, own⟩ := range
  have fits : ¬(1 < a.w1.toNat ∨ (a.w1 = 1 ∧ q ≠ p)) :=
    not_or.2 ⟨request, fun ⟨clears, other⟩ => own ⟨clears, fun e => other (Port.index_injective e)⟩⟩
  cases record : s.sub? ch q <;>
  simp only [State.querySubscriptionAnswer, State.absence_of_attached (State.attached_of_portChecks hport),
    channelPort?_of_val named, if_neg fits, record]

/-- QUERY_QUEUE, accepted: the counts are those of the entries that ARG0 selects (R79). -/
theorem State.queryQueueAnswer_of_none (h : judge (s.queueChecks .queryQueue p a) = none) :
    ∃ x : Selector, selects a.w0 = x.matches ∧ s.queryQueueAnswer p a = s.answer .ok (s.queueResults p x) := by
  obtain ⟨hport, h⟩ := judge_append_none h
  obtain ⟨range, -⟩ := judge_cons_none h
  obtain ⟨x, hx⟩ : ∃ x, selector? a.w0 = some x := by
    by_cases any : a.w0 = 0xFFFF
    · exact ⟨.any, if_pos any⟩
    · simp only [any, ne_eq, not_false_eq_true, decide_true, Bool.true_and, decide_eq_false_iff_not] at range
      obtain ⟨ch, hc⟩ := Option.ne_none_iff_exists'.1 fun e => range (channel?_none.1 e)
      exact ⟨.channel ch, by rw [selector?, anyWord, if_neg any, hc, Option.map_some]⟩
  refine ⟨x, selects_of_selector? hx, ?_⟩
  simp only [State.queryQueueAnswer, State.absence_of_attached (State.attached_of_portChecks hport), hx]

theorem State.queryLockAnswer_of_none {l : LockId} (h : judge (s.lockChecks .queryLock p a) = none)
    (number : a.w0.toNat = l.val) : s.queryLockAnswer p a = s.answer .ok ((s.locks.get l).results p) := by
  have att := State.attached_of_portChecks (judge_append_none h).1
  simp only [State.queryLockAnswer, State.absence_of_attached att, lock?_of_val number]

end

/-- What QUERY_CHANNEL reports of a channel in use (R40). -/
theorem Channel.results_eq (c : Channel) :
    c.results =
      match c.defn with
      | none => { w4 := c.seq, w5 := if c.frozen then 0x0100 else 0 }
      | some d =>
        { w0 := match d.phase with | .active => 1 | .suspended => 2 | .closing => 3
          w1 := if d.kind = .state then 1 else 0
          w2 := BitVec.setWidth 16 d.publishers
          w3 := BitVec.ofNat 16 d.lifetime
          w4 := c.seq
          w5 := bytesWord
            ((if (d.subs.get .A).isSome then 1 else 0) + (if (d.subs.get .B).isSome then 2 else 0) +
              (if (d.subs.get .C).isSome then 4 else 0) + if (d.subs.get .D).isSome then 8 else 0)
            (if c.frozen then 1 else 0) } := by
  unfold Channel.results
  cases c.defn with
  | none => simp only [bytesWord_frozen]
  | some d =>
    have frozen : c.frozen.toNat = if c.frozen then 1 else 0 := by cases c.frozen <;> rfl
    simp only [ChannelPhase.toWord_code, ChannelKind.toWord_code, portBits_eq, frozen]
    rfl

/-- Policy and NEW in the high byte of RESULT0 (R41). -/
theorem Subscription.results_eq (b : Subscription) :
    b.results =
      { w0 := bytesWord b.depth ((if b.policy = .keepNewest then 1 else 0) + if b.new then 2 else 0)
        w1 := b.tagMatch
        w2 := b.tagMask
        w3 := BitVec.ofNat 16 b.lost
        w4 := BitVec.ofNat 16 b.expired
        w5 := BitVec.ofNat 16 b.superseded } := by
  have policy : (decide (b.policy = .keepNewest)).toNat = if b.policy = .keepNewest then 1 else 0 := by
    cases b.policy <;> rfl
  rw [Subscription.results, mul_toNat_bool, policy]
  rfl

/-- The source of a held message, 1 for STREAM and 2 for STATE (R79). -/
theorem Source.toWord_code_succ (x : Source) : toWord (x.code + 1) = if x = .stream then 1 else 2 := by cases x <;> rfl

/-- What QUERY_QUEUE reports (R79). -/
theorem State.queueResults_eq (s : State) (p : Port) (x : Selector) :
    s.queueResults p x =
      let counts : Words6 :=
        { w0 := BitVec.ofNat 16 (s.queues.get p).length
          w1 := BitVec.ofNat 16 ((s.queues.get p).countP x.matches) }
      match s.holds.get p with
      | none => counts
      | some h =>
        { counts with
          w2 := if h.source = .stream then 1 else 2
          w3 := BitVec.ofNat 16 h.entry.channel.val
          w4 := h.entry.seq
          w5 := BitVec.ofNat 16 h.pointer } := by
  unfold State.queueResults
  cases s.holds.get p with
  | none => rfl
  | some h =>
    simp only [Source.toWord_code_succ]
    rfl

/-- What QUERY_LOCK reports to port `p`: the grant number to its holder alone (R108). -/
theorem Lock.results_eq (k : Lock) (p : Port) :
    k.results p =
      let flags := (if k.revoked.any fun r => r.port = p then 2 else 0) + if k.frozen then 4 else 0
      { w0 := match k.grant with
          | none => bytesWord flags 0xFF
          | some g => bytesWord (1 + flags) g.holder.index
        w1 := bytesWord k.waiters.length (if p ∈ k.waiters then k.waiters.idxOf p + 1 else 0)
        w2 := BitVec.ofNat 16 k.leaseSetting
        w3 := BitVec.ofNat 16 ((k.grant.bind fun g => g.lease).getD 0)
        w4 := ((k.grant.filter fun g => g.holder = p).map fun g => g.number.extractLsb' 0 16).getD 0
        w5 := ((k.grant.filter fun g => g.holder = p).map fun g => g.number.extractLsb' 16 16).getD 0 } := by
  unfold Lock.results
  simp only [mul_toNat_bool]
  cases k.grant with
  | none => rfl
  | some g =>
    have lease : leaseWord g.lease = BitVec.ofNat 16 (g.lease.getD 0) := by cases g.lease <;> rfl
    have filtered : (some g).filter (fun g => g.holder = p) = if g.holder = p then some g else none := by
      simp [Option.filter]
    simp only [filtered, lease]
    by_cases own : g.holder = p
    · rw [if_pos own, if_pos own]
      rfl
    · rw [if_neg own, if_neg own]
      rfl

/-- Settles O18: no check refuses, and each record is reported as its `results_eq` says. -/
theorem recordQueriesReport : Obligations.RecordQueriesReport := by
  intro s p a
  refine ⟨fun ch hi hj number => ?_, fun ch q hi hj named => ?_, fun hi hj => ?_, fun l hi hj number => ?_⟩
  · have answer := State.queryChannelAnswer_of_none hj number
    rw [Channel.results_eq] at answer
    exact exec_of_answer (c := .queryChannel) hi answer
  · have answer := State.querySubscriptionAnswer_of_none hj named
    cases record : s.sub? ch q with
    | none =>
      rw [record] at answer
      exact exec_of_answer (c := .querySubscription) hi answer
    | some b =>
      rw [record] at answer
      simp only [Subscription.results_eq] at answer
      exact exec_of_answer (c := .querySubscription) hi answer
  · obtain ⟨x, selected, answer⟩ := State.queryQueueAnswer_of_none hj
    rw [State.queueResults_eq, ← selected] at answer
    exact exec_of_answer (c := .queryQueue) hi answer
  · have answer := State.queryLockAnswer_of_none hj number
    rw [Lock.results_eq] at answer
    exact exec_of_answer (c := .queryLock) hi answer

end Sys2Proof.Machine
end

section
/-! What a port holds, and the relation that nearly every operation of the part satisfies: no absent port gains a holding, and no
port's credits rise. The purge and the resets are the exceptions; they leave a port with nothing. -/

namespace Sys2Proof.Machine

set_option Elab.async false

/-! ### A port's holdings (R49, R132) -/

/-- The port's NEW flag for the channel is set (R24). -/
def Channel.newFor (c : Channel) (p : Port) : Bool := c.defn.any fun d => (d.subs.get p).any fun b => b.new

/-- Port `p` has no reservation, entry, hold, vote, set NEW flag, credit in use or report. -/
structure State.HoldsNothing (s : State) (p : Port) : Prop where
  reservation : s.reservations.get p = none
  queue : s.queues.get p = []
  hold : s.holds.get p = none
  vote : (s.ports.get p).vote = false
  news : ∀ ch, (s.channels.get ch).newFor p = false
  inUse : s.creditsInUse p = 0
  report : ∀ r ∈ s.reports, r.port ≠ p

/-- What the invariants say of one port. -/
structure State.PortInOrder (s : State) (p : Port) : Prop where
  absent : (s.ports.get p).state ≠ .attached → s.HoldsNothing p
  credits : (s.ports.get p).credits + s.creditsInUse p ≤ 4

theorem Channel.newFor_eq_false {c : Channel} {p : Port} :
    c.newFor p = false ↔ ∀ d b, c.defn = some d → d.subs.get p = some b → b.new = false := by
  unfold Channel.newFor
  cases c.defn with
  | none => simp
  | some d =>
    simp only [Option.any_some, Option.some.injEq]
    constructor
    · rintro h _ b rfl record
      simpa [record] using h
    · intro h
      cases record : d.subs.get p with
      | none => rfl
      | some b => exact h d b rfl record

theorem State.creditsInUse_eq_zero {s : State} {p : Port} :
    s.creditsInUse p = 0 ↔ s.completions.get p = [] ∧
      (∀ r ∈ s.publishQueue, r.publisher = p → r.orphaned = true) ∧
      ∀ f, s.engine = some f → f.request.publisher = p → f.request.orphaned = true := by
  have waiting : (∀ r ∈ s.publishQueue, ¬(decide (r.publisher = p) && !r.orphaned) = true) ↔
      ∀ r ∈ s.publishQueue, r.publisher = p → r.orphaned = true := by simp
  have spreading : (s.engine.any fun f => decide (f.request.publisher = p) && !f.request.orphaned) = false ↔
      ∀ f, s.engine = some f → f.request.publisher = p → f.request.orphaned = true := by
    cases s.engine <;> simp
  rw [State.creditsInUse, Nat.add_eq_zero_iff, Nat.add_eq_zero_iff, List.countP_eq_zero, waiting, Bool.toNat_eq_zero, spreading,
    List.length_eq_zero_iff, and_comm]

/-- The two invariants, port by port. -/
theorem State.portsInOrder_iff {s : State} : s.AbsentHoldNothing ∧ s.CreditsBounded ↔ ∀ p, s.PortInOrder p := by
  constructor
  · rintro ⟨h, bounded⟩ p
    refine ⟨fun absent => ?_, bounded p⟩
    refine ⟨h.reservation p absent, h.queue p absent, h.hold p absent, h.vote p absent, fun ch => ?_, ?_, fun r hr e => ?_⟩
    · exact Channel.newFor_eq_false.2 fun d b => h.news p ch d b absent
    · refine State.creditsInUse_eq_zero.2 ⟨h.completions p absent, fun r hr e => ?_, fun f hf e => ?_⟩
      · exact h.waiting r hr (e ▸ absent)
      · exact h.spreading f hf (e ▸ absent)
    · exact absent (e ▸ h.report r hr)
  · intro h
    have unused : ∀ p, (s.ports.get p).state ≠ .attached → _ := fun p absent =>
      State.creditsInUse_eq_zero.1 ((h p).absent absent).inUse
    refine ⟨?_, fun p => (h p).credits⟩
    exact
      { reservation := fun p absent => ((h p).absent absent).reservation
        queue := fun p absent => ((h p).absent absent).queue
        hold := fun p absent => ((h p).absent absent).hold
        vote := fun p absent => ((h p).absent absent).vote
        news := fun p ch d b absent => Channel.newFor_eq_false.1 (((h p).absent absent).news ch) d b
        completions := fun p absent => (unused p absent).1
        waiting := fun r hr absent => (unused _ absent).2.1 r hr rfl
        spreading := fun f hf absent => (unused _ absent).2.2 f hf rfl
        report := fun r hr => by_contra fun absent => ((h _).absent absent).report r hr rfl }

/-! ### Gaining nothing -/

/-- Between `s` and `t` port `p` gains no credit, and gains holdings only if it is ATTACHED. -/
structure State.NoGain (s : State) (p : Port) (t : State) : Prop where
  absent : (t.ports.get p).state ≠ .attached →
    (s.ports.get p).state ≠ .attached ∧ (s.HoldsNothing p → t.HoldsNothing p)
  credits : (t.ports.get p).credits + t.creditsInUse p ≤ (s.ports.get p).credits + s.creditsInUse p

section
variable {s t u : State} {p q : Port}

theorem State.PortInOrder.noGain (h : s.PortInOrder p) (k : s.NoGain p t) : t.PortInOrder p where
  absent away := (k.absent away).2 (h.absent (k.absent away).1)
  credits := k.credits.trans h.credits

theorem State.NoGain.refl (s : State) (p : Port) : s.NoGain p s := ⟨fun away => ⟨away, id⟩, le_rfl⟩

theorem State.NoGain.trans (h : s.NoGain p t) (k : t.NoGain p u) : s.NoGain p u where
  absent away := ⟨(h.absent (k.absent away).1).1, fun x => (k.absent away).2 ((h.absent (k.absent away).1).2 x)⟩
  credits := k.credits.trans h.credits

/-- An ATTACHED port may gain anything but credits. -/
theorem State.NoGain.of_attached (attached : (t.ports.get p).state = .attached)
    (credits : (t.ports.get p).credits + t.creditsInUse p ≤ (s.ports.get p).credits + s.creditsInUse p) : s.NoGain p t :=
  ⟨fun away => absurd attached away, credits⟩

/-- Field by field; an operation names the fields that it touches. -/
theorem State.NoGain.of_fields (state : (t.ports.get p).state = (s.ports.get p).state := by simp)
    (vote : (s.ports.get p).vote = false → (t.ports.get p).vote = false := by simp)
    (credits : (t.ports.get p).credits = (s.ports.get p).credits := by simp)
    (inUse : t.creditsInUse p ≤ s.creditsInUse p := by simp [State.creditsInUse])
    (reservation : s.reservations.get p = none → t.reservations.get p = none := by simp)
    (queue : s.queues.get p = [] → t.queues.get p = [] := by simp)
    (hold : s.holds.get p = none → t.holds.get p = none := by simp)
    (news : ∀ ch, (s.channels.get ch).newFor p = false → (t.channels.get ch).newFor p = false := by simp)
    (report : (s.ports.get p).state ≠ .attached → (∀ r ∈ s.reports, r.port ≠ p) →
      ∀ r ∈ t.reports, r.port ≠ p := by simp) : s.NoGain p t where
  absent away :=
    have away' : (s.ports.get p).state ≠ .attached := state ▸ away
    ⟨away', fun h =>
      { reservation := reservation h.reservation
        queue := queue h.queue
        hold := hold h.hold
        vote := vote h.vote
        news := fun ch => news ch (h.news ch)
        inUse := Nat.le_zero.1 (h.inUse ▸ inUse)
        report := report away' h.report }⟩
  credits := by
    rw [credits]
    exact Nat.add_le_add_left inUse _

theorem State.NoGain.foldl {α : Type} {f : State → α → State} (h : ∀ (s : State) a, s.NoGain p (f s a)) (l : List α)
    (s : State) : s.NoGain p (l.foldl f s) := by
  induction l generalizing s with
  | nil => exact .refl s p
  | cons a l ih => exact (h s a).trans (ih (f s a))

end

end Sys2Proof.Machine
end

section
/-! The shared operations give nothing to an absent port. -/

namespace Sys2Proof.Machine

set_option Elab.async false

section
variable (s : State) (p q : Port)

/-! ### Records that are nobody's holding -/

theorem State.updWindow_noGain (f : Window → Window) : s.NoGain q (s.updWindow p f) := .of_fields

theorem State.updEvents_noGain (f : EventUnit → EventUnit) : s.NoGain q (s.updEvents p f) := .of_fields

theorem State.raise_noGain (e : Event) : s.NoGain q (s.raise p e) := s.updEvents_noGain p q _

theorem State.raiseAll_noGain (e : Event) (ps : List Port) : s.NoGain q (s.raiseAll e ps) := .of_fields

theorem State.updSlot_noGain (i : SlotId) (f : Slot → Slot) : s.NoGain q (s.updSlot i f) := .of_fields

/-- A changed port record that keeps the port's state and credits, and sets no vote. -/
theorem State.updPort_noGain {f : PortRecord → PortRecord} (state : ∀ r, (f r).state = r.state)
    (vote : ∀ r, r.vote = false → (f r).vote = false) (credits : ∀ r, (f r).credits = r.credits) :
    s.NoGain q (s.updPort p f) := by
  have e : ((s.updPort p f).ports.get q) = if q = p then f (s.ports.get q) else s.ports.get q := by
    rw [State.updPort_ports, PerPort.get_modify]
    split
    · next h => rw [h]
    · rfl
  refine .of_fields (state := ?_) (vote := ?_) (credits := ?_)
  · rw [e]
    split
    · exact state _
    · rfl
  · rw [e]
    split
    · exact vote _
    · exact id
  · rw [e]
    split
    · exact credits _
    · rfl

/-- A port's record is no other port's holding. -/
theorem State.updPort_other_noGain {q : Port} (h : q ≠ p) (f : PortRecord → PortRecord) : s.NoGain q (s.updPort p f) := by
  have e : (s.updPort p f).ports.get q = s.ports.get q := PerPort.get_set_other _ _ h
  exact .of_fields (state := by rw [e]) (vote := by rw [e]; exact id) (credits := by rw [e])

/-- A port that is not ATTACHED leaves no report (R125; log 26). -/
theorem State.report_noGain (k : ReportKind) : s.NoGain q (s.report p k) := by
  refine .of_fields (report := fun absent clean r hr => ?_)
  rw [State.report_reports] at hr
  split at hr
  · next attached =>
    rcases List.mem_append.1 hr with hr | hr
    · exact clean r hr
    · obtain rfl := List.mem_singleton.1 hr
      rintro rfl
      exact absent (State.attached_eq_true.1 attached)
  · exact clean r hr

/-! ### References, entries, holds, reservations -/

theorem State.addRef_noGain (i : SlotId) : s.NoGain q (s.addRef i) := .of_fields

theorem State.release_noGain (i : SlotId) : s.NoGain q (s.release i) := by
  obtain ⟨state, -, -, -, -, vote, credits⟩ := s.release_ports i q
  exact .of_fields (state := state) (vote := fun h => vote.trans h) (credits := credits)

theorem State.releaseAll_noGain (is : List SlotId) : s.NoGain q (s.releaseAll is) :=
  .foldl (fun s i => s.release_noGain q i) is s

theorem State.setQueue_noGain {l : List Entry} (h : s.queues.get p = [] → l = []) : s.NoGain q (s.setQueue p l) := by
  refine .of_fields (queue := fun empty => ?_)
  rw [State.setQueue_queues, PerPort.get_set]
  split
  · next e => exact h (e ▸ empty)
  · exact empty

theorem State.dropEntries_noGain (f : Entry → Bool) : s.NoGain q (s.dropEntries p f) :=
  (s.setQueue_noGain p q (fun e => by rw [e]; rfl)).trans (State.releaseAll_noGain _ q _)

theorem State.pullOldest_noGain (f : Entry → Bool) : s.NoGain q (s.pullOldest p f) :=
  s.setQueue_noGain p q fun e => by rw [e]; rfl

theorem State.setHold_noGain {h : Option Hold} (k : s.holds.get p = none → h = none) : s.NoGain q (s.setHold p h) := by
  refine .of_fields (hold := fun empty => ?_)
  rw [State.setHold_holds, PerPort.get_set]
  split
  · next e => exact k (e ▸ empty)
  · exact empty

theorem State.emptyHold_noGain : s.NoGain q (s.emptyHold p) := by
  unfold State.emptyHold
  split
  · exact (s.release_noGain q _).trans (State.setHold_noGain _ p q fun _ => rfl)
  · exact .refl s q

theorem State.setReservation_none_noGain : s.NoGain q (s.setReservation p none) := by
  refine .of_fields (reservation := fun free => ?_)
  rw [State.setReservation_reservations, PerPort.get_set]
  split
  · rfl
  · exact free

theorem State.dropReservation_noGain : s.NoGain q (s.dropReservation p) :=
  (s.setReservation_none_noGain p q).trans (State.updWindow_noGain _ p q _)

/-! ### Channel records -/

/-- A changed channel that sets no NEW flag of the port. -/
theorem State.updChannel_noGain {ch : ChannelId} {f : Channel → Channel}
    (h : (s.channels.get ch).newFor q = false → (f (s.channels.get ch)).newFor q = false) : s.NoGain q (s.updChannel ch f) := by
  refine .of_fields (news := fun c unread => ?_)
  rw [State.updChannel_channels, Table.get_modify]
  split
  · next e => exact h (e ▸ unread)
  · exact unread

/-- A changed definition that keeps the subscription records. -/
theorem State.updDefn_noGain (ch : ChannelId) {f : ChannelDef → ChannelDef} (subs : ∀ d, (f d).subs = d.subs) :
    s.NoGain q (s.updDefn ch f) := by
  refine s.updChannel_noGain q fun unread => ?_
  unfold Channel.newFor at *
  cases e : (s.channels.get ch).defn <;> simp_all

/-- A changed subscription record whose NEW flag is not set by the change. -/
theorem State.updSub_noGain (ch : ChannelId) {f : Subscription → Subscription} (h : ∀ b, b.new = false → (f b).new = false) :
    s.NoGain q (s.updSub ch p f) := by
  refine s.updChannel_noGain q fun unread => ?_
  rw [Channel.newFor_eq_false] at unread ⊢
  intro d b defined record
  obtain ⟨d', defined', rfl⟩ := Option.map_eq_some_iff.1 defined
  rw [PerPort.get_modify] at record
  split at record
  · next e =>
    obtain ⟨b', record', rfl⟩ := Option.map_eq_some_iff.1 record
    exact h b' (unread d' b' defined' (e ▸ record'))
  · exact unread d' b defined' record

/-- A subscription record is no other port's holding. -/
theorem State.updSub_other_noGain {q : Port} (e : q ≠ p) (ch : ChannelId) (f : Subscription → Subscription) :
    s.NoGain q (s.updSub ch p f) := by
  refine s.updChannel_noGain q fun unread => ?_
  rw [Channel.newFor_eq_false] at unread ⊢
  intro d b defined record
  obtain ⟨d', defined', rfl⟩ := Option.map_eq_some_iff.1 defined
  rw [PerPort.get_modify, if_neg e] at record
  exact unread d' b defined' record

/-- A subscription record set in place of another, whose NEW flag it may keep. -/
theorem State.setSub_noGain (ch : ChannelId) {x : Option Subscription}
    (h : ∀ d b, (s.channels.get ch).defn = some d → x = some b → b.new = true →
      ∃ b', d.subs.get p = some b' ∧ b'.new = true) :
    s.NoGain q (s.setSub ch p x) := by
  refine s.updChannel_noGain q fun unread => ?_
  rw [Channel.newFor_eq_false] at unread ⊢
  intro d b defined record
  obtain ⟨d', defined', rfl⟩ := Option.map_eq_some_iff.1 defined
  rw [PerPort.get_set] at record
  split at record
  · next e =>
    by_contra new
    obtain ⟨b', record', new'⟩ := h d' b defined' record (by simpa using new)
    exact absurd (unread d' b' defined' (e ▸ record')) (by simp [new'])
  · exact unread d' b defined' record

theorem State.clearNews_noGain : s.NoGain q (s.clearNews p) := by
  refine .of_fields (news := fun ch unread => ?_)
  rw [State.clearNews, Table.get_map, Channel.newFor_eq_false]
  rw [Channel.newFor_eq_false] at unread
  intro d b defined record
  obtain ⟨d', defined', rfl⟩ := Option.map_eq_some_iff.1 defined
  rw [PerPort.get_modify] at record
  split at record
  · obtain ⟨b', -, rfl⟩ := Option.map_eq_some_iff.1 record
    rfl
  · exact unread d' b defined' record

theorem State.countLost_noGain (ch : ChannelId) : s.NoGain q (s.countLost p ch) := by
  refine .trans ?_ (State.raise_noGain _ p q _)
  exact s.updSub_noGain p q ch fun _ h => h

theorem State.countExpired_noGain (ch : ChannelId) : s.NoGain q (s.countExpired p ch) := by
  refine .trans ?_ (State.raise_noGain _ p q _)
  exact s.updSub_noGain p q ch fun _ h => h

theorem State.loseOldest_noGain (ch : ChannelId) : s.NoGain q (s.loseOldest p ch) := by
  unfold State.loseOldest
  split
  · exact ((s.pullOldest_noGain p q _).trans (State.release_noGain _ q _)).trans (State.countLost_noGain _ p q ch)
  · exact .refl s q

theorem State.trim_noGain (ch : ChannelId) (k : Nat) : s.NoGain q (s.trim p ch k) := by
  induction k generalizing s with
  | zero => exact .refl s q
  | succ k ih => exact (s.loseOldest_noGain p q ch).trans (ih _)

/-! ### Locks and votes -/

theorem State.handoff_noGain (l : LockId) : s.NoGain q (s.handoff l) := .of_fields

theorem State.voteFell_noGain : s.NoGain q s.voteFell := .of_fields

theorem State.withdrawVote_noGain : s.NoGain q (s.withdrawVote p) := by
  refine .trans ?_ (State.voteFell_noGain _ q)
  exact s.updPort_noGain p q (fun _ => rfl) (fun _ _ => rfl) fun _ => rfl

theorem State.takeLease_noGain (l : LockId) : s.NoGain q (s.takeLease l) := by
  unfold State.takeLease
  split
  · exact .refl s q
  next g _ =>
  split
  · exact .refl s q
  split
  · exact .of_fields
  · have expired : s.NoGain q (((s.updLock l fun k => { k with revoked := some { number := g.number, port := g.holder } }).handoff
        l).raise g.holder .leaseLost) := .of_fields
    exact expired.trans (State.report_noGain _ g.holder q _)

theorem State.takeLeases_noGain : s.NoGain q s.takeLeases :=
  State.NoGain.trans (t := { s with due := { s.due with locks := [] } }) .of_fields
    (.foldl (fun s l => s.takeLease_noGain q l) _ _)

end

end Sys2Proof.Machine
end

section
/-! Requests that are withdrawn or spread, and expiries, give nothing to an absent port; a purge takes everything from its port. -/

namespace Sys2Proof.Machine

set_option Elab.async false

/-! ### Withdrawing requests (R36, R63) -/

section
variable (s : State) (q : Port)

/-- A request that waits is a credit in use, one that leaves a record is one too (R49). -/
theorem State.withdraw_completions_length (o : PublishOutcome) (r : Request) :
    ((s.withdraw o r).completions.get q).length ≤ (s.completions.get q).length + (r.recordedAt q).toNat := by
  rw [State.withdraw_completions, List.length_append]
  refine Nat.add_le_add_left ((List.length_filterMap_le _ _).trans ?_) _
  cases e : r.recordedAt q <;> simp [e]

theorem State.withdrawAll_completions_length (o : PublishOutcome) (rs : List Request) :
    ((rs.foldl (fun t r => t.withdraw o r) s).completions.get q).length ≤
      (s.completions.get q).length + rs.countP (·.recordedAt q) := by
  induction rs generalizing s with
  | nil => exact le_rfl
  | cons r rs ih =>
    have rest := ih (s.withdraw o r)
    have first := s.withdraw_completions_length q o r
    rw [List.foldl_cons, List.countP_cons]
    cases e : r.recordedAt q <;> simp only [e, Bool.toNat_false, Bool.toNat_true, if_true, if_false, Bool.false_eq_true] at * <;>
      omega

/-- A withdrawal changes accounts only. -/
theorem State.withdraw_ports (o : PublishOutcome) (r : Request) :
    (s.ports.get q).sameButAccount ((s.withdraw o r).ports.get q) := by
  unfold State.withdraw
  split
  · next m _ => simpa using (s.retire r m o Counts.zero).release_ports r.slot q
  · exact PortRecord.sameButAccount_refl _

theorem State.withdrawAll_ports (o : PublishOutcome) (rs : List Request) :
    (s.ports.get q).sameButAccount ((rs.foldl (fun t r => t.withdraw o r) s).ports.get q) := by
  induction rs generalizing s with
  | nil => exact PortRecord.sameButAccount_refl _
  | cons r rs ih => exact PortRecord.sameButAccount_trans (s.withdraw_ports q o r) (ih _)

/-- Credits in use, with the requests counted by `recordedAt`. -/
theorem State.creditsInUse_eq : s.creditsInUse q =
    s.publishQueue.countP (·.recordedAt q) + (s.engine.any fun f => f.request.recordedAt q).toNat +
      (s.completions.get q).length := rfl

/-- Requests taken out of the publish queue leave one record each at most, so no credit more is in use. -/
theorem State.withdraw_noGain (o : PublishOutcome) (f : Request → Bool) :
    s.NoGain q ((s.publishQueue.filter f).foldl (fun t r => t.withdraw o r)
      { s with publishQueue := s.publishQueue.filter fun r => !f r }) := by
  obtain ⟨state, -, -, -, -, vote, credits⟩ := State.withdrawAll_ports
    { s with publishQueue := s.publishQueue.filter fun r => !f r } q o (s.publishQueue.filter f)
  have records := State.withdrawAll_completions_length
    { s with publishQueue := s.publishQueue.filter fun r => !f r } q o (s.publishQueue.filter f)
  refine .of_fields (state := state) (vote := fun h => vote.trans h) (credits := credits) (inUse := ?_)
  have split : s.publishQueue.countP (·.recordedAt q) =
      (s.publishQueue.filter f).countP (·.recordedAt q) + (s.publishQueue.filter fun r => !f r).countP (·.recordedAt q) := by
    simpa using (List.filter_append_perm f s.publishQueue).symm.countP_eq (·.recordedAt q)
  simp only [State.creditsInUse_eq, State.withdrawAll_frame]
  dsimp only at records
  omega

theorem State.closeRequests_noGain (ch : ChannelId) : s.NoGain q (s.closeRequests ch) :=
  s.withdraw_noGain q .channelClosed (s.requestOn ch)

theorem State.closeEntries_noGain (ch : ChannelId) : s.NoGain q (s.closeEntries ch) :=
  .foldl (fun t p => t.dropEntries_noGain p q fun e => decide (e.channel = ch)) Port.all s

theorem State.closeChannel_noGain (ch : ChannelId) : s.NoGain q (s.closeChannel ch) := by
  unfold State.closeChannel
  split
  · exact .refl s q
  next d _ =>
  refine .trans ?_ (State.raiseAll_noGain _ q .channel _)
  refine .trans ?_ (State.updChannel_noGain _ q fun _ => rfl)
  refine (s.closeRequests_noGain q ch).trans ((State.closeEntries_noGain _ q ch).trans ?_)
  unfold State.closeCurrent
  split
  · exact State.release_noGain _ q _
  · exact .refl _ q

theorem State.closeIfClosing_noGain (ch : ChannelId) : s.NoGain q (s.closeIfClosing ch) := by
  unfold State.closeIfClosing
  split
  · exact s.closeChannel_noGain q ch
  · exact .refl s q

end

/-! ### Publishing and fan-out (R46, R52 to R58) -/

section
variable {s : State} (q : Port)

/-- The request that waited first is the one being spread; its credit stays in use. -/
theorem State.takeHead_noGain {r : Request} {rest : List Request} (idle : s.engine = none) (head : s.publishQueue = r :: rest) :
    s.NoGain q (s.takeHead r rest) := by
  refine .of_fields (inUse := ?_)
  rw [State.creditsInUse_eq, State.creditsInUse_eq, idle, head]
  simp only [State.takeHead, State.updSlot_publishQueue, State.updSlot_engine, State.updSlot_completions, List.countP_cons,
    Option.any_some, Option.any_none]
  cases r.recordedAt q <;> simp [Nat.add_comm]

theorem State.installCurrent_noGain (ch : ChannelId) (d : ChannelDef) (i : SlotId) : s.NoGain q (s.installCurrent ch d i) := by
  have installed : s.NoGain q ((s.addRef i).updDefn ch fun e => { e with current := some i }) := by
    refine .trans (s.addRef_noGain q i) ?_
    exact State.updDefn_noGain _ q ch fun _ => rfl
  unfold State.installCurrent
  dsimp only
  split
  · exact installed.trans (State.release_noGain _ q _)
  · exact installed

theorem State.startFanOut_noGain {r : Request} {rest : List Request} (idle : s.engine = none) (head : s.publishQueue = r :: rest)
    (m : Message) : s.NoGain q (s.startFanOut r rest m) := by
  have taken := State.takeHead_noGain q idle head
  unfold State.startFanOut
  dsimp only
  split
  · exact taken
  split
  · exact taken
  · exact taken.trans (State.installCurrent_noGain q _ _ _)

/-- The cursor and the counts are nobody's holding. -/
theorem State.advance_noGain {f : FanOut} (p : Port) (n : Counts) (spreading : s.engine = some f) : s.NoGain q (s.advance f p n) :=
  State.NoGain.of_fields (t := { s with engine := some { f with cursor := Cursor.after p, counts := n } })
    (inUse := by simp [State.creditsInUse, spreading])

/-- An entry is placed at an ATTACHED port. -/
theorem State.place_noGain {p : Port} (attached : (s.ports.get p).state = .attached) (e : Entry) : s.NoGain q (s.place p e) := by
  by_cases h : q = p
  · subst h
    exact .of_attached (by simpa using attached) (by simp [State.creditsInUse])
  · exact .of_fields (queue := by simp [State.place, h])

theorem State.notify_noGain {p : Port} (attached : (s.ports.get p).state = .attached) (ch : ChannelId) :
    s.NoGain q (s.notify ch p) := by
  by_cases h : q = p
  · subst h
    exact .of_attached (by simpa using attached) (by simp [State.creditsInUse])
  · exact (s.updSub_other_noGain p h ch _).trans (State.raise_noGain _ p q _)

theorem State.attached_of_classify {m : Message} {p : Port} (h : (∃ b, s.classify m p = .stream b) ∨ s.classify m p = .state) :
    (s.ports.get p).state = .attached := by
  by_contra absent
  have : s.attached p = false := by simpa [State.attached] using absent
  unfold State.classify at h
  simp only [this, Bool.not_false, if_true] at h
  revert h
  split
  · simp
  · split <;> simp

theorem State.loseOldest_attached {p : Port} (attached : (s.ports.get p).state = .attached) (ch : ChannelId) :
    ((s.loseOldest p ch).ports.get p).state = .attached := by
  unfold State.loseOldest
  split
  · exact (State.release_ports (s.pullOldest p _) _ p).1.trans attached
  · exact attached

theorem State.placeStream_noGain {p : Port} (attached : (s.ports.get p).state = .attached) (b : Subscription) (e : Entry) :
    s.NoGain q (s.placeStream p b e).1 := by
  unfold State.placeStream
  split_ifs
  · exact State.place_noGain q attached e
  · exact (s.loseOldest_noGain p q _).trans (State.place_noGain q (State.loseOldest_attached attached _) e)
  · exact s.countLost_noGain p q _

theorem State.visit_noGain {f : FanOut} (p : Port) (m : Message) (spreading : s.engine = some f) : s.NoGain q (s.visit f p m) := by
  unfold State.visit
  dsimp only
  split
  case h_1 => exact State.advance_noGain q p _ spreading
  case h_2 => exact State.advance_noGain q p _ spreading
  case h_3 => exact State.advance_noGain q p _ spreading
  case h_4 b hb =>
    have engine : (s.placeStream p b (m.placed f.request)).1.engine = some f := by
      unfold State.placeStream
      split_ifs <;> simp [spreading]
    have placed := State.placeStream_noGain q (State.attached_of_classify (.inl ⟨b, hb⟩)) b (m.placed f.request)
    split
    all_goals
      next e =>
      rw [e] at placed engine
      exact placed.trans (State.advance_noGain q p _ engine)
  case h_5 hs =>
    exact (State.notify_noGain q (State.attached_of_classify (.inr hs)) _).trans
      (State.advance_noGain q p _ (by simpa using spreading))

/-- The fan-out's request ends as a record at most; its credit stays in use until the record is collected (R49, R58). -/
theorem State.retire_idle_noGain {f : FanOut} (spreading : s.engine = some f) (m : Message) (o : PublishOutcome) (n : Counts) :
    s.NoGain q { s.retire f.request m o n with engine := none } := by
  refine .of_fields (inUse := ?_)
  rw [State.creditsInUse_eq, State.creditsInUse_eq, spreading]
  simp only [State.retire, Option.any_none, Option.any_some, Request.recordedAt]
  cases f.request.orphaned
  · by_cases h : q = f.request.publisher
    · simp only [State.complete_completions, h, if_true, Bool.false_eq_true, if_false, State.complete_frame, List.length_append,
        List.length_singleton, decide_true, Bool.not_false, Bool.and_self, Bool.toNat_true, Bool.toNat_false]
      omega
    · simp [State.complete_completions, h, Ne.symm h]
  · simp

theorem State.endFanOut_noGain {f : FanOut} (m : Message) (spreading : s.engine = some f) : s.NoGain q (s.endFanOut f m) := by
  unfold State.endFanOut
  dsimp only
  refine .trans ?_ (State.closeIfClosing_noGain _ q _)
  refine (s.release_noGain q f.request.slot).trans ((State.updSlot_noGain _ q f.request.slot Slot.settle).trans ?_)
  exact State.retire_idle_noGain q (by simpa using spreading) m _ _

end

/-! ### Expiry and ticks (R119, R120) -/

section
variable (s : State) (q : Port)

theorem State.expireEntries_noGain (i : SlotId) (ch : ChannelId) (p : Port) : s.NoGain q (s.expireEntries i ch p) := by
  unfold State.expireEntries
  split
  · exact (s.dropEntries_noGain p q _).trans (State.countExpired_noGain _ p q ch)
  · exact .refl s q

/-- A withdrawn value clears the NEW flags of its channel (R92). -/
theorem State.withdrawCurrent_noGain (ch : ChannelId) (i : SlotId) : s.NoGain q (s.withdrawCurrent ch i) := by
  unfold State.withdrawCurrent
  split
  · exact .refl s q
  next d _ =>
  split
  · refine .trans ?_ (State.release_noGain _ q i)
    refine .trans (.foldl (fun t p => t.countExpired_noGain p q ch) d.unread s) ?_
    refine State.updChannel_noGain _ q fun _ => ?_
    rw [Channel.newFor_eq_false]
    intro e b defined record
    obtain ⟨e', -, rfl⟩ := Option.map_eq_some_iff.1 defined
    rw [PerPort.get_map] at record
    obtain ⟨b', -, rfl⟩ := Option.map_eq_some_iff.1 record
    rfl
  · exact .refl s q

theorem State.expireLive_noGain (i : SlotId) (m : Message) : s.NoGain q (s.expireLive i m) := by
  refine .trans ?_ (State.withdrawCurrent_noGain _ q m.channel i)
  exact (s.updSlot_noGain q i _).trans (.foldl (fun t p => t.expireEntries_noGain q i m.channel p) Port.all _)

theorem State.markExpired_noGain (i : SlotId) : s.NoGain q (s.markExpired i) := by
  refine .of_fields (inUse := ?_)
  unfold State.creditsInUse State.markExpired
  cases s.engine with
  | none => simp
  | some f =>
    dsimp only [Option.map_some]
    split <;> simp

theorem State.expireSlot_noGain (i : SlotId) (m : Message) : s.NoGain q (s.expireSlot i m) := by
  unfold State.expireSlot
  split
  · exact s.withdraw_noGain q .expired fun r => decide (r.slot = i)
  · exact (s.markExpired_noGain q i).trans (State.expireLive_noGain _ q i m)
  · exact s.expireLive_noGain q i m
  · exact .refl s q

theorem State.takeLifetime_noGain (i : SlotId) : s.NoGain q (s.takeLifetime i) := by
  have taken : s.NoGain q { s with due := { s.due with slots := s.due.slots.filter fun j => decide (j ≠ i) } } := .of_fields
  unfold State.takeLifetime
  dsimp only
  split
  · exact taken
  split
  · exact taken.trans (State.expireSlot_noGain _ q i _)
  · exact taken

theorem PortRecord.cool_eq (r : PortRecord) : r.cool.state = r.state ∧ r.cool.vote = r.vote ∧ r.cool.credits = r.credits := by
  unfold PortRecord.cool
  split <;> simp

theorem State.takeCoolDowns_noGain : s.NoGain q s.takeCoolDowns := by
  obtain ⟨state, vote, credits⟩ := (s.ports.get q).cool_eq
  exact .of_fields (state := by simpa [State.takeCoolDowns] using state) (vote := by simp [State.takeCoolDowns, vote])
    (credits := by simpa [State.takeCoolDowns] using credits)

/-- What a port holds is not in the records that a tick touches. -/
@[simp] theorem State.deliverTick_frame :
    s.deliverTick.reservations = s.reservations ∧ s.deliverTick.channels = s.channels ∧
    s.deliverTick.publishQueue = s.publishQueue ∧ s.deliverTick.engine = s.engine ∧
    s.deliverTick.completions = s.completions ∧ s.deliverTick.queues = s.queues ∧ s.deliverTick.holds = s.holds ∧
    s.deliverTick.reports = s.reports := ⟨rfl, rfl, rfl, rfl, rfl, rfl, rfl, rfl⟩

theorem State.deliverTick_noGain : s.NoGain q s.deliverTick := by
  have kept : (s.deliverTick.ports.get q).state = (s.ports.get q).state ∧
      (s.deliverTick.ports.get q).vote = (s.ports.get q).vote ∧
      (s.deliverTick.ports.get q).credits = (s.ports.get q).credits := by
    unfold State.deliverTick
    dsimp only
    split
    · simpa using (s.ports.get q).cool_eq
    · exact ⟨rfl, rfl, rfl⟩
  obtain ⟨state, vote, credits⟩ := kept
  exact .of_fields (state := state) (vote := fun h => vote.trans h) (credits := credits)

end

/-! ### The purge (R132) -/

section
variable (s : State) (p : Port)

theorem State.purgeReservation_noGain (q : Port) : s.NoGain q (s.purgeReservation p) := by
  unfold State.purgeReservation
  split
  · exact (s.release_noGain q _).trans (State.dropReservation_noGain _ p q)
  · exact s.dropReservation_noGain p q

theorem State.purgeQueue_noGain (q : Port) : s.NoGain q (s.purgeQueue p) :=
  (s.dropEntries_noGain p q _).trans (State.emptyHold_noGain _ p q)

/-- Orphaning a port's requests ends credits in use, its own alone (R62). -/
theorem Request.recordedAt_orphan (q : Port) (r : Request) : (r.orphan p).recordedAt q = (r.recordedAt q && decide (q ≠ p)) := by
  unfold Request.orphan Request.recordedAt
  split <;> by_cases h : r.publisher = q <;> simp_all

theorem State.creditsInUse_orphanPublishes (q : Port) :
    (s.orphanPublishes p).creditsInUse q = if q = p then 0 else s.creditsInUse q := by
  have requests : (s.publishQueue.map (Request.orphan p)).countP (·.recordedAt q) =
      if q = p then 0 else s.publishQueue.countP (·.recordedAt q) := by
    rw [List.countP_map]
    split <;> simp [Function.comp_def, Request.recordedAt_orphan, *]
  have spreading : ((s.engine.map fun f => { f with request := f.request.orphan p }).any fun f => f.request.recordedAt q) =
      if q = p then false else s.engine.any fun f => f.request.recordedAt q := by
    cases s.engine <;> split <;> simp [Request.recordedAt_orphan, *]
  rw [State.creditsInUse_eq, State.creditsInUse_eq]
  simp only [State.orphanPublishes, requests, spreading, PerPort.get_set]
  split <;> simp

theorem State.orphanPublishes_noGain {q : Port} (h : q ≠ p) : s.NoGain q (s.orphanPublishes p) := by
  have same : (s.orphanPublishes p).ports.get q = s.ports.get q := PerPort.get_set_other _ _ h
  exact .of_fields (state := by rw [same]) (vote := by rw [same]; exact id) (credits := by rw [same])
    (inUse := by rw [s.creditsInUse_orphanPublishes p, if_neg h])

theorem State.purgeLocks_noGain (q : Port) : s.NoGain q (s.purgeLocks p) := .of_fields

theorem State.clearPending_noGain (q : Port) : s.NoGain q (s.clearPending p) := s.updEvents_noGain p q _

theorem State.dropReports_noGain (q : Port) : s.NoGain q (s.dropReports p) :=
  .of_fields (report := fun _ clean r hr => clean r (List.mem_of_mem_filter hr))

/-- A purge gives nothing to the other ports. -/
theorem State.purge_noGain {q : Port} (h : q ≠ p) : s.NoGain q (s.purge p) := by
  refine (s.updWindow_noGain p q Window.discard).trans ?_
  refine (State.purgeReservation_noGain _ p q).trans ((State.purgeQueue_noGain _ p q).trans ?_)
  refine (State.clearNews_noGain _ p q).trans ((State.orphanPublishes_noGain _ p h).trans ?_)
  refine (State.purgeLocks_noGain _ p q).trans ((State.withdrawVote_noGain _ p q).trans ?_)
  exact (State.clearPending_noGain _ p q).trans (State.dropReports_noGain _ p q)

theorem State.purgeReservation_reservation : (s.purgeReservation p).reservations.get p = none := by
  unfold State.purgeReservation
  split <;> simp [State.dropReservation]

theorem State.purgeQueue_queue : (s.purgeQueue p).queues.get p = [] := by
  have empty : (s.dropEntries p fun _ => true).queues.get p = [] := by simp [State.dropEntries_queues]
  simpa [State.purgeQueue] using empty

theorem State.emptyHold_hold : (s.emptyHold p).holds.get p = none := by
  unfold State.emptyHold
  split
  · simp
  · assumption

theorem Channel.clearNew_newFor (c : Channel) : (c.clearNew p).newFor p = false := by
  rw [Channel.newFor_eq_false]
  intro d b defined record
  obtain ⟨d', -, rfl⟩ := Option.map_eq_some_iff.1 defined
  obtain ⟨b', -, rfl⟩ := Option.map_eq_some_iff.1 ((PerPort.get_set_same ..).symm.trans record)
  rfl

theorem State.purge_reservation : (s.purge p).reservations.get p = none := by
  simp [State.purge, State.purgeReservation_reservation]

theorem State.purge_queue : (s.purge p).queues.get p = [] := by simp [State.purge, State.purgeQueue_queue]

theorem State.purge_hold : (s.purge p).holds.get p = none := by simp [State.purge, State.purgeQueue, State.emptyHold_hold]

theorem State.purge_newFor (ch : ChannelId) : ((s.purge p).channels.get ch).newFor p = false := by
  have cleared : (s.purge p).channels = s.channels.map (Channel.clearNew p) := by simp [State.purge, State.clearNews]
  rw [cleared, Table.get_map]
  exact Channel.clearNew_newFor p _

/-- No step of the purge but the fifth touches credits in use. -/
theorem State.purge_creditsInUse : (s.purge p).creditsInUse p = 0 := by
  have fifth : (s.purge p).creditsInUse p = (s.orphanPublishes p).creditsInUse p := by
    simp [State.purge, State.creditsInUse, State.orphanPublishes]
  rw [fifth, State.creditsInUse_orphanPublishes, if_pos rfl]

/-- After its purge a port holds nothing (R132). -/
theorem State.purge_holdsNothing : (s.purge p).HoldsNothing p where
  reservation := s.purge_reservation p
  queue := s.purge_queue p
  hold := s.purge_hold p
  vote := by rw [(s.purge_pool p).2.2.2 p, if_pos rfl]
  news := s.purge_newFor p
  inUse := s.purge_creditsInUse p
  report r hr := by
    rw [s.purge_reports p] at hr
    exact of_decide_eq_true (List.mem_filter.1 hr).2

theorem State.purge_credits : ((s.purge p).ports.get p).credits = 4 := by rw [(s.purge_pool p).2.2.2 p, if_pos rfl]

/-- A port that holds nothing is in order whatever its state. -/
theorem State.HoldsNothing.inOrder {s : State} {p : Port} (h : s.HoldsNothing p) (credits : (s.ports.get p).credits = 4) :
    s.PortInOrder p := ⟨fun _ => h, by rw [credits, h.inUse]⟩

end

end Sys2Proof.Machine
end

section
/-! Every row keeps every port in order: an ATTACHED port gains what its commands give it, a port that leaves is purged, and the
resets leave nothing. -/

namespace Sys2Proof.Machine

set_option Elab.async false

/-! ### A port leaves (R127, R131, R134) -/

section
variable {s : State} {p : Port}

/-- A purge leaves its port in order, and the others where they were. -/
theorem State.purge_inOrder (others : ∀ q, q ≠ p → s.PortInOrder q) (q : Port) : (s.purge p).PortInOrder q := by
  by_cases h : q = p
  · subst h
    exact (s.purge_holdsNothing q).inOrder (s.purge_credits q)
  · exact (others q h).noGain (s.purge_noGain p h)

/-- Neither what a port holds nor its credits depend on its state. -/
theorem State.HoldsNothing.setState (h : s.HoldsNothing p) (credits : (s.ports.get p).credits = 4) (x : PortState) :
    (s.updPort p fun r => { r with state := x }).PortInOrder p := by
  have record : (s.updPort p fun r => { r with state := x }).ports.get p = { s.ports.get p with state := x } :=
    PerPort.get_set_same ..
  refine State.HoldsNothing.inOrder ?_ ((congrArg PortRecord.credits record).trans credits)
  exact ⟨h.reservation, h.queue, h.hold, (congrArg PortRecord.vote record).trans h.vote, h.news, h.inUse, h.report⟩

/-- A purged port is in order in whatever state it is left. -/
theorem State.purge_leave_inOrder (others : ∀ q, q ≠ p → s.PortInOrder q) (x : PortState) (q : Port) :
    ((s.purge p).updPort p fun r => { r with state := x }).PortInOrder q := by
  by_cases h : q = p
  · subst h
    exact (s.purge_holdsNothing q).setState (s.purge_credits q) x
  · exact (State.purge_inOrder others q).noGain (State.updPort_other_noGain _ p h _)

theorem State.isolate_inOrder (h : ∀ q, s.PortInOrder q) (q : Port) : (s.isolate p).PortInOrder q :=
  State.purge_inOrder (fun q e => ((h q).noGain (s.updPort_other_noGain p e _)).noGain (State.updWindow_noGain _ p q _)) q

theorem State.lowerScore_noGain (s : State) (p q : Port) : s.NoGain q (s.lowerScore p) :=
  s.updPort_noGain p q (fun _ => rfl) (fun _ => id) fun _ => rfl

theorem State.charge_inOrder (h : ∀ q, s.PortInOrder q) (q : Port) : (s.charge p).PortInOrder q := by
  have scored : ∀ n, s.NoGain q (s.updPort p fun r => { r with score := n }) := fun n =>
    s.updPort_noGain p q (fun _ => rfl) (fun _ => id) fun _ => rfl
  unfold State.charge
  dsimp only
  split_ifs
  · exact State.isolate_inOrder h q
  · exact (h q).noGain ((scored _).trans (State.raise_noGain _ p q _))
  · exact (h q).noGain (scored _)

theorem State.score_inOrder (h : ∀ q, s.PortInOrder q) (k : ReportKind) (q : Port) : (s.score p k).PortInOrder q := by
  unfold State.score
  split
  · cases k with
    | success => exact (h q).noGain (s.lowerScore_noGain p q)
    | refusal => exact h q
    | fault => exact State.charge_inOrder h q
    | leaseExpiry => exact State.charge_inOrder h q
  · exact h q

theorem State.detached_inOrder (h : ∀ q, s.PortInOrder q) (q : Port) : (s.detached p).PortInOrder q :=
  State.purge_leave_inOrder (fun q _ => (h q).noGain (s.lowerScore_noGain p q)) .offline q

theorem State.portReset_inOrder (h : ∀ q, s.PortInOrder q) (q : Port) : (s.portReset p).PortInOrder q := by
  have byState : (s.portResetByState p).PortInOrder q := by
    unfold State.portResetByState
    split
    · exact State.purge_leave_inOrder (fun q _ => h q) .offline q
    · exact (h q).noGain ((s.updWindow_noGain p q _).trans (State.clearPending_noGain _ p q))
  exact byState.noGain ((State.updEvents_noGain _ p q _).trans (State.updWindow_noGain _ p q _))

end

/-! ### Resets (R20, R43, R152) -/

theorem Channel.deviceReset_newFor (c : Channel) (p : Port) : c.deviceReset.newFor p = false := by
  rw [Channel.newFor_eq_false]
  intro d b defined record
  obtain ⟨d', -, reset⟩ := Option.bind_eq_some_iff.1 defined
  unfold ChannelDef.deviceReset at reset
  split at reset
  · cases reset
  · cases reset
    obtain ⟨b', -, rfl⟩ := Option.map_eq_some_iff.1 ((PerPort.get_map ..).symm.trans record)
    rfl

theorem State.deviceReset_inOrder (s : State) (p : Port) : s.deviceReset.PortInOrder p := by
  have ports : s.deviceReset.ports.get p = PortRecord.initial := PerPort.get_all ..
  refine State.HoldsNothing.inOrder ?_ (congrArg PortRecord.credits ports)
  exact
    { reservation := PerPort.get_all ..
      queue := PerPort.get_all ..
      hold := PerPort.get_all ..
      vote := congrArg PortRecord.vote ports
      news := fun ch => by
        rw [State.deviceReset, Table.get_map]
        exact Channel.deviceReset_newFor _ p
      inUse := by simp [State.creditsInUse, State.deviceReset]
      report := fun _ hr => absurd hr List.not_mem_nil }

theorem State.powerOn_inOrder (s : State) (p : Port) : s.powerOn.PortInOrder p := by
  have ports : s.powerOn.ports.get p = PortRecord.initial := PerPort.get_all ..
  refine State.HoldsNothing.inOrder ?_ (congrArg PortRecord.credits ports)
  exact
    { reservation := PerPort.get_all ..
      queue := PerPort.get_all ..
      hold := PerPort.get_all ..
      vote := congrArg PortRecord.vote ports
      news := fun ch => by
        rw [State.powerOn, State.reset, Table.get_replicate]
        rfl
      inUse := by simp [State.creditsInUse, State.powerOn, State.reset]
      report := fun _ hr => absurd hr List.not_mem_nil }

/-! ### Commands -/

section
variable {s : State} (p q : Port)

theorem State.credits_of_publishCheck {p : Port} {d : ChannelDef} {a : Words6} (h : s.publishCheck p d a = none) :
    (s.ports.get p).credits ≠ 0 := by
  unfold State.publishCheck at h
  split_ifs at h with _ _ _ _ credits
  exact credits

theorem State.defn_of_openJudge {ch : ChannelId} {d : ChannelDef} (h : s.openJudge ch = .ok d) : s.defn? ch = some d := by
  unfold State.openJudge at h
  split at h
  · cases h
  next defined =>
  split_ifs at h
  cases h
  exact defined

/-- ATTACH gives its port a state, not a credit (R126). -/
theorem State.attach_noGain (a : Words6) :
    s.NoGain q (s.updPort p fun _ => (s.ports.get p).attach a.w0 a.w1.toNat) := by
  by_cases h : q = p
  · subst h
    refine .of_attached ?_ ?_ <;> simp [PerPort.get_modify, PortRecord.attach, State.creditsInUse]
  · exact s.updPort_other_noGain p h _

theorem State.castVote_noGain (attached : (s.ports.get p).state = .attached) : s.NoGain q (s.castVote p) := by
  unfold State.castVote
  split
  · exact .refl s q
  · refine .trans ?_ (State.raiseAll_noGain _ q .vote _)
    by_cases h : q = p
    · subst h
      refine .of_attached ?_ ?_ <;> simp [PerPort.get_modify, State.creditsInUse, attached]
    · exact s.updPort_other_noGain p h _

theorem State.setReservation_noGain (attached : (s.ports.get p).state = .attached) (x : Option SlotId) :
    s.NoGain q (s.setReservation p x) := by
  by_cases h : q = p
  · subst h
    exact .of_attached (by simpa using attached) (by simp [State.creditsInUse])
  · exact .of_fields (reservation := by simp [h])

theorem State.setHold_attached_noGain (attached : (s.ports.get p).state = .attached) (x : Option Hold) :
    s.NoGain q (s.setHold p x) := by
  by_cases h : q = p
  · subst h
    exact .of_attached (by simpa using attached) (by simp [State.creditsInUse])
  · exact .of_fields (hold := by simp [h])

/-- READ_STATE gives an ATTACHED port a hold and takes a NEW flag (R89). -/
theorem State.readCurrent_noGain (attached : (s.ports.get p).state = .attached) (ch : ChannelId) (i : SlotId) (m : Message) :
    s.NoGain q (s.readCurrent p ch i m) := by
  have held : (s.addRef i).NoGain q ((s.addRef i).setHold p (some { entry := m.entry i, source := .state, pointer := 0 })) :=
    State.setHold_attached_noGain (s := s.addRef i) p q attached _
  refine ((s.addRef_noGain q i).trans held).trans ?_
  exact State.updSub_noGain _ p q ch fun _ _ => rfl

theorem State.reserveSlot_noGain (attached : (s.ports.get p).state = .attached) (ch : ChannelId) (i : SlotId)
    (rest : List SlotId) : s.NoGain q (s.reserveSlot p ch i rest) := by
  refine .trans ?_ (State.updWindow_noGain _ p q _)
  refine .trans ?_ (State.setReservation_noGain p q (by simp [PerPort.get_modify, attached]) _)
  refine .trans ?_ (State.updPort_noGain _ p q (fun _ => rfl) (fun _ => id) fun _ => rfl)
  exact .of_fields

/-- What an accepted PUBLISH makes of the state, record by record (R46). -/
theorem State.acceptPublish_eq (s : State) (p : Port) (i : SlotId) (ch : ChannelId) (owner : Port) (d : ChannelDef)
    (a : Words6) : s.acceptPublish p i ch owner d a =
      { s with
        channels := s.channels.set ch { s.channels.get ch with seq := (s.channels.get ch).seq + 1 }
        slots := s.slots.set i
          { use := .message
              { phase := .pending, channel := ch, account := owner, seq := (s.channels.get ch).seq + 1, tag := a.w1
                length := a.w0.toNat, lifetime := countdown d.lifetime }
            refs := (s.slots.get i).refs }
        publishQueue := s.publishQueue ++ [{ slot := i, publisher := p, orphaned := false }]
        ports := s.ports.set p { s.ports.get p with credits := (s.ports.get p).credits - 1 }
        reservations := s.reservations.set p none
        windows := s.windows.set p { s.windows.get p with fillPointer := 0 } } := rfl

/-- An accepted PUBLISH turns a free credit into one in use (R46, R49). -/
theorem State.acceptPublish_noGain (attached : (s.ports.get p).state = .attached) (credit : (s.ports.get p).credits ≠ 0)
    (i : SlotId) (ch : ChannelId) (owner : Port) (d : ChannelDef) (a : Words6) :
    s.NoGain q (s.acceptPublish p i ch owner d a) := by
  rw [State.acceptPublish_eq]
  by_cases h : q = p
  · subst h
    refine .of_attached (by simpa using attached) ?_
    simp only [State.creditsInUse, PerPort.get_set_same, List.countP_append, List.countP_singleton, decide_true,
      Bool.not_false, Bool.and_self, if_true]
    omega
  · refine .of_fields (state := by simp [h]) (vote := by simp [h]) (credits := by simp [h])
      (inUse := by simp [State.creditsInUse, Ne.symm h]) (reservation := by simp [h]) (news := fun c unread => ?_)
    rw [Table.get_set]
    split
    · next e => exact e ▸ unread
    · exact unread

theorem State.collect_noGain {c : Completion} {rest : List Completion} (attached : (s.ports.get p).state = .attached)
    (oldest : s.completions.get p = c :: rest) :
    s.NoGain q (({ s with completions := s.completions.set p rest } : State).updPort p
      fun r => { r with credits := r.credits + 1 }) := by
  by_cases h : q = p
  · subst h
    refine .of_attached ?_ ?_
    · simp [PerPort.get_modify, attached]
    · have freed : (s.completions.get q).length = rest.length + 1 := by rw [oldest, List.length_cons]
      simp only [State.creditsInUse, State.updPort_ports, State.updPort_publishQueue, State.updPort_engine,
        State.updPort_completions, PerPort.get_modify, PerPort.get_set_same, if_true]
      omega
  · refine .trans (t := { s with completions := s.completions.set p rest }) ?_ (State.updPort_other_noGain _ p h _)
    exact .of_fields (inUse := by simp [State.creditsInUse, h])

theorem State.withGeometry_noGain (g : Geometry) : s.NoGain q (s.withGeometry g) := by
  unfold State.withGeometry
  exact .of_fields

theorem State.setPhase_noGain (ch : ChannelId) (d : ChannelDef) (x : ChannelPhase) : s.NoGain q (s.setPhase ch d x) := by
  refine .trans ?_ (State.raiseAll_noGain _ q .channel _)
  exact s.updDefn_noGain q ch fun _ => rfl

theorem State.warnPool_noGain (before after : Nat) : s.NoGain q (s.warnPool before after) := by
  unfold State.warnPool
  split
  · exact s.raiseAll_noGain q _ _
  · exact .refl s q

/-- A replaced subscription record keeps its NEW flag (R31). -/
theorem State.resubscribe_noGain {ch : ChannelId} {r : Port} {d : ChannelDef} {b x : Subscription}
    (openFor : s.openJudge ch = .ok d) (present : d.subs.get r = some b) (new : x.new = b.new) :
    s.NoGain q (s.setSub ch r (some x)) := by
  refine s.setSub_noGain r q ch fun e y defined made flag => ?_
  cases made
  have same : e = d := by
    have := State.defn_of_openJudge openFor
    rw [State.defn?, defined] at this
    exact Option.some.inj this
  exact ⟨b, same ▸ present, new ▸ flag⟩

/-- What a command makes of the state keeps every port in order. -/
theorem State.Takes.inOrder {t : State} {a : Words6} {c : Command} (k : s.Takes p a c t) (h : ∀ q, s.PortInOrder q) :
    t.PortInOrder q := by
  have keeps : ∀ u, s.NoGain q u → u.PortInOrder q := fun u g => (h q).noGain g
  cases k
  case unchanged => exact h q
  case attach => exact keeps _ ((State.attach_noGain p q a).trans (State.updWindow_noGain _ p q _))
  case detach => exact State.detached_inOrder h q
  case voteReset att => exact keeps _ (State.castVote_noGain p q att)
  case withdrawVote => exact keeps _ (s.withdrawVote_noGain p q)
  case setGeometry g _ _ _ => exact keeps _ (s.withGeometry_noGain q g)
  case start | setTimebase | setQuorum | setWatermark => exact keeps _ .of_fields
  case reserve att _ _ _ _ =>
    exact keeps _ ((State.reserveSlot_noGain p q att _ _ _).trans (State.warnPool_noGain q _ _))
  case abandon => exact keeps _ ((s.release_noGain q _).trans (State.dropReservation_noGain _ p q))
  case publish att _ _ _ passed =>
    exact keeps _ (State.acceptPublish_noGain p q att (State.credits_of_publishCheck passed) _ _ _ _ a)
  case collect att oldest => exact keeps _ (State.collect_noGain p q att oldest)
  case take att _ _ _ =>
    exact keeps _ ((s.pullOldest_noGain p q _).trans (State.setHold_attached_noGain p q (by simpa using att) _))
  case discard => exact keeps _ ((s.pullOldest_noGain p q _).trans (State.release_noGain _ q _))
  case done => exact keeps _ (s.emptyHold_noGain p q)
  case readState ch d i m _ att _ _ _ _ => exact keeps _ (State.readCurrent_noGain p q att ch i m)
  case acquireFree | acquireQueued | renew | cancelWait | setLease | freezeLock => exact keeps _ .of_fields
  case release => exact keeps _ (s.handoff_noGain q _)
  case defineChannel ch _ _ _ => exact keeps _ (s.updChannel_noGain q fun _ => by simp [Channel.newFor])
  case setChannel ch _ _ _ => exact keeps _ (s.updDefn_noGain q ch fun _ => rfl)
  case subscribeNew ch r _ _ _ _ _ _ _ =>
    refine keeps _ (s.setSub_noGain r q ch fun d b _ e new => ?_)
    cases e
    cases new
  case subscribeAgain ch r _ _ d b _ _ openFor present =>
    refine keeps _ (.trans ?_ (State.trim_noGain _ r q ch _))
    exact State.resubscribe_noGain q openFor present rfl
  case unsubscribe ch r _ _ _ _ _ =>
    refine keeps _ ((s.dropEntries_noGain r q _).trans (State.setSub_noGain _ r q ch fun _ _ _ e => ?_))
    cases e
  case suspend ch d _ _ => exact keeps _ (State.setPhase_noGain q ch d _)
  case resume ch d _ _ => exact keeps _ (State.setPhase_noGain q ch d _)
  case closeDeferred ch d _ _ => exact keeps _ (s.updDefn_noGain q ch fun _ => rfl)
  case closeNow ch _ _ _ => exact keeps _ (s.closeChannel_noGain q ch)
  case freezeChannel ch => exact keeps _ (s.updChannel_noGain q id)
  case clearCounts ch _ _ => exact keeps _ (s.updSub_noGain p q ch fun _ => id)

end

/-! ### Answers, events and accesses -/

section
variable {s : State} (q : Port)

theorem State.shown_noGain (s : State) (p : Port) (c : Command) (r : Response) (w : Words6) : s.NoGain q (s.shown p c r w) := by
  unfold State.shown
  exact .of_fields

/-- What is reported is the report of an ATTACHED port (R125; log 26). -/
theorem State.reported_noGain (s : State) (p : Port) (k : ReportKind) : s.NoGain q { s with reports := s.reported p k } :=
  s.report_noGain p q k

theorem State.posted_noGain (s : State) (p : Port) (c : Command) (r : Response) (w : Words6) : s.NoGain q (s.posted p c r w) :=
  (s.shown_noGain q p c r w).trans (State.reported_noGain q (s.shown p c r w) p r.classOf)

theorem State.locationFaulted_noGain (p : Port) (r : Response) (o : Byte) : s.NoGain q (s.locationFaulted p r o) := by
  rw [← State.locationFault_eq]
  exact ((s.updWindow_noGain p q _).trans (State.raise_noGain _ p q _)).trans (State.report_noGain _ p q _)

/-- Device control's share of a tick moves the authorization counter or resets the device (R157). -/
theorem State.takeAuthorization_inOrder (h : s.PortInOrder q) : s.takeAuthorization.PortInOrder q := by
  have taken : ∀ (d : Due) (x : Device), s.NoGain q { s with due := d, device := x } := fun d x => .of_fields
  unfold State.takeAuthorization
  dsimp only
  split_ifs
  · exact State.deviceReset_inOrder _ q
  · exact h.noGain (taken _ _)
  · exact h.noGain (taken _ s.device)

theorem State.baseTick_inOrder (h : ∀ q, s.PortInOrder q) : ∀ q, s.baseTick.PortInOrder q :=
  State.baseTick_keeps (P := fun t => ∀ q, t.PortInOrder q) (fun u i k q => (k q).noGain (u.takeLifetime_noGain q i))
    (fun u k q => (k q).noGain (u.takeLeases_noGain q)) (fun u k q => (k q).noGain (u.takeCoolDowns_noGain q))
    (fun u k q => u.takeAuthorization_inOrder q (k q)) (fun u _ q => u.deviceReset_inOrder q)
    (fun u k q => (k q).noGain (u.deliverTick_noGain q)) h

/-- What an event or an access makes of the state keeps every port in order. -/
theorem State.Happens.inOrder {t : State} (k : s.Happens t) (h : ∀ q, s.PortInOrder q) : t.PortInOrder q := by
  have keeps : ∀ u, s.NoGain q u → u.PortInOrder q := fun u g => (h q).noGain g
  cases k
  case unchanged => exact h q
  case locationFault p r o => exact keeps _ (State.locationFaulted_noGain q p r o)
  case commandIssued | fillPointed | plainWritten => exact keeps _ (s.updWindow_noGain _ q _)
  case codeRejected p _ _ =>
    exact keeps _ ((s.updWindow_noGain p q _).trans ((State.raise_noGain _ p q _).trans (State.report_noGain _ p q _)))
  case filled p i w _ _ _ =>
    refine keeps _ (.trans (t := s.storeWord i (s.windows.get p).fillPointer w) ?_ (State.updWindow_noGain _ p q _))
    unfold State.storeWord
    exact .of_fields
  case driven p w => exact keeps _ (s.updWindow_noGain p q _)
  case dataRead p x held _ =>
    exact keeps _ ((s.updWindow_noGain p q _).trans (State.setHold_noGain _ p q fun e => absurd (held.symm.trans e) (by simp)))
  case readPointed p x _ held _ => exact keeps _ (s.setHold_noGain p q fun e => absurd (held.symm.trans e) (by simp))
  case eventsWritten p f => exact keeps _ (s.updEvents_noGain p q f)
  case ticksRead p => exact keeps _ ((s.updWindow_noGain p q _).trans (State.updWindow_noGain _ p q _))
  case powerOn => exact s.powerOn_inOrder q
  case pornReleased | counted => exact keeps _ .of_fields
  case portReset => exact State.portReset_inOrder h q
  case ticked => exact State.baseTick_inOrder h q
  case lifetimeEnds i _ => exact keeps _ (s.takeLifetime_noGain q i)
  case leasesTick => exact keeps _ (s.takeLeases_noGain q)
  case coolDownsTick => exact keeps _ (s.takeCoolDowns_noGain q)
  case authorizationTicks => exact s.takeAuthorization_inOrder q (h q)
  case scored p kind _ =>
    refine State.score_inOrder (fun r => (h r).noGain ?_) kind q
    exact .of_fields (report := fun _ clean x hx => clean x (List.mem_of_mem_erase hx))
  case fanOutStarts r rest m idle head _ => exact keeps _ (State.startFanOut_noGain q idle head m)
  case visited f p m spreading _ _ => exact keeps _ (State.visit_noGain q p m spreading)
  case fanOutEnds f m spreading _ _ => exact keeps _ (State.endFanOut_noGain q m spreading)

end

/-- Settles O56: port by port (`State.portsInOrder_iff`), every row keeps each port in order. -/
theorem everyStepKeepsCreditsAndAbsentPorts : Obligations.EveryStepKeepsCreditsAndAbsentPorts := by
  intro s t absent bounded h
  refine State.portsInOrder_iff.2 (step_keeps (P := fun u => ∀ q, u.PortInOrder q) (fun u rest k q => ?_)
    (fun u v hu k q => ?_) (State.portsInOrder_iff.1 ⟨absent, bounded⟩) h)
  · exact (k q).noGain (State.NoGain.of_fields (t := { u with pending := rest }))
  · exact k.keeps (P := fun v => v.PortInOrder q) (fun _ _ _ _ x => x.inOrder _ q hu)
      (fun _ _ _ _ _ x => x.noGain (State.shown_noGain ..)) (fun _ _ _ _ _ x => x.noGain (State.posted_noGain ..))
      (fun u _ => u.deviceReset_inOrder q) (fun _ x => x.inOrder q hu)

end Sys2Proof.Machine
end

section
/-! PUBLISH and COLLECT, accepted, each against its statement. -/

namespace Sys2Proof.Machine

set_option Elab.async false

section
variable {s : State} {p : Port} {a : Words6}

/-! ### PUBLISH (R45, R46) -/

/-- Orders 5 to 10 of R45 pass. -/
theorem State.publishCheck_of_none {d : ChannelDef}
    (h : judge
      [on (d.phase = .closing) .closed, on (d.phase = .suspended) .suspended,
       on (!d.publishers.getLsbD p.index) .notPublisher,
       on (a.w0 = 0 ∨ s.geometry.slotSize < a.w0.toNat) .length,
       on ((s.ports.get p).credits = 0) .busy { w0 := 1 },
       on (8 ≤ s.publishQueue.length) .busy { w0 := 2 }] = none) :
    s.publishCheck p d a = none := by
  obtain ⟨h1, h⟩ := judge_cons_none h
  obtain ⟨h2, h⟩ := judge_cons_none h
  obtain ⟨h3, h⟩ := judge_cons_none h
  obtain ⟨h4, h⟩ := judge_cons_none h
  obtain ⟨h5, h⟩ := judge_cons_none h
  obtain ⟨h6, -⟩ := judge_cons_none h
  rw [State.publishCheck, if_neg (of_decide_eq_false h1), if_neg (of_decide_eq_false h2), if_neg (Bool.not_eq_true _ ▸ h3),
    if_neg (of_decide_eq_false h4), if_neg (of_decide_eq_false h5), if_neg (of_decide_eq_false h6)]

/-- The checks of PUBLISH pass: the acceptance of R46 is answered. -/
theorem State.publishAnswer_of_none {i : SlotId} {ch : ChannelId} {q : Port} {d : ChannelDef}
    (h : judge (s.publishChecks .publish p a) = none) (reserved : s.reservations.get p = some i)
    (filling : (s.slots.get i).use = .filling ch q) (defined : (s.channels.get ch).defn = some d) :
    s.publishAnswer p a = (s.acceptPublish p i ch q d a).answer .ok
      { w0 := (s.channels.get ch).seq + 1, w1 := toWord i.val, w2 := toWord ((s.ports.get p).credits - 1) } := by
  have channel : s.reservedChannel p = some ch := by simp [State.reservedChannel, reserved, filling]
  have reservation : s.reservation? p = some (i, ch, q) := by simp [State.reservation?, reserved, filling]
  obtain ⟨run, h⟩ := judge_append_none h
  obtain ⟨traffic, -, att⟩ := State.trafficCheck_of_runChecks run
  obtain ⟨unrestricted, h⟩ := judge_cons_none h
  obtain ⟨-, h⟩ := judge_cons_none h
  simp only [channel, Option.bind_some, defined, Option.any_some, Option.isNone_some, Bool.false_eq_true, false_or,
    Bool.decide_eq_true] at h
  have passed := State.publishCheck_of_none h
  have definition : s.defn? ch = some d := defined
  simp [State.publishAnswer, traffic, State.restricted_of_attached att, unrestricted, reservation, definition, passed,
    State.acceptPublish_eq]

/-! ### COLLECT (R60) -/

/-- The outcome as COLLECT reports it (R60). -/
theorem PublishOutcome.toWord_code (o : PublishOutcome) :
    toWord o.code = match o with
      | .delivered => 0
      | .noneDelivered => 1
      | .channelClosed => 2
      | .expired => 3 := by
  cases o <;> rfl

/-- The checks of COLLECT pass: the oldest record is answered. -/
theorem State.collectAnswer_of_none {c : Completion} {rest : List Completion}
    (h : judge (s.publishChecks .collect p a) = none) (oldest : s.completions.get p = c :: rest) :
    s.collectAnswer p a =
      ({ s with
        completions := s.completions.set p rest
        ports := s.ports.set p { s.ports.get p with credits := (s.ports.get p).credits + 1 } } : State).answer .ok
        (c.results rest.length) := by
  obtain ⟨run, -⟩ := judge_append_none h
  obtain ⟨traffic, -, -⟩ := State.trafficCheck_of_runChecks run
  simp only [State.collectAnswer, traffic, oldest]
  rfl

end

/-! ### The statements -/

/-- Settles O22: no check refuses, and the acceptance is `State.acceptPublish_eq`. -/
theorem publishQueuesTheReservedSlot : Obligations.PublishQueuesTheReservedSlot := by
  intro s p a i ch q d issued checked reserved filling defined
  have answer := State.publishAnswer_of_none checked reserved filling defined
  rw [State.acceptPublish_eq] at answer
  exact exec_of_answer (c := .publish) issued answer

/-- Settles O23: no check refuses, and the list has a head. -/
theorem collectReturnsTheOldestRecord : Obligations.CollectReturnsTheOldestRecord := by
  intro s p a c rest issued checked oldest
  have answer := State.collectAnswer_of_none checked oldest
  rw [Completion.results, PublishOutcome.toWord_code] at answer
  exact exec_of_answer (c := .collect) issued answer

end Sys2Proof.Machine
end

section
/-! The delivery engine's three events, each against its statement. -/

namespace Sys2Proof.Machine

set_option Elab.async false

section
variable {s : State}

/-! ### The fan-out start (R52, R85) -/

theorem exec_fanOutStart_of_ready {r : Request} {rest : List Request} {m : Message} (released : s.porAsserted = false)
    (idle : s.engine = none) (head : s.publishQueue = r :: rest) (message : s.message? r.slot = some m) :
    exec .fanOutStart s = .next (s.startFanOut r rest m) := by
  have ready : s.fanOutReady = some (r, rest, m) := by simp [State.fanOutReady, released, idle, head, message]
  show execFanOutStart s = _
  rw [execFanOutStart, ready]

/-- What the start makes of the state before the channel's kind is looked at. -/
theorem State.takeHead_eq {r : Request} (rest : List Request) {m : Message} (use : (s.slots.get r.slot).use = .message m) :
    s.takeHead r rest =
      { s with
        publishQueue := rest
        engine := some { request := r, cursor := .visit .A, counts := Counts.zero, expired := false }
        slots := s.slots.set r.slot { use := .message { m with phase := .spreading }, refs := (s.slots.get r.slot).refs } } := by
  simp only [State.takeHead, State.updSlot, Table.modify, Slot.withPhase, use]

/-- The new value of a STATE channel has one reference more, the old one a reference less (R85). -/
theorem State.installCurrent_eq {ch : ChannelId} {d : ChannelDef} (defined : (s.channels.get ch).defn = some d) (i : SlotId) :
    s.installCurrent ch d i =
      let t : State :=
        { s with
          slots := s.slots.set i { s.slots.get i with refs := (s.slots.get i).refs + 1 }
          channels := s.channels.set ch { s.channels.get ch with defn := some { d with current := some i } } }
      match d.current with
      | none => t
      | some j => t.release j := by
  have installed := State.updDefn_of_defn (s := s.addRef i) defined fun e => { e with current := some i }
  unfold State.installCurrent
  rw [installed]
  cases d.current <;> rfl

/-! ### Placement events (R53 to R57) -/

theorem exec_placementEvent_of_ready {f : FanOut} {p : Port} {m : Message} (released : s.porAsserted = false)
    (spreading : s.engine = some f) (next : f.cursor = .visit p) (message : s.message? f.request.slot = some m) :
    exec .placementEvent s = .next (s.visit f p m) := by
  have ready : s.placementReady = some (f, p, m) := by simp [State.placementReady, released, spreading, next, message]
  show execPlacementEvent s = _
  rw [execPlacementEvent, ready]

theorem State.classify_unsubscribed {m : Message} {p : Port} (h : s.sub? m.channel p = none) : s.classify m p = .unsubscribed := by
  unfold State.classify
  unfold State.sub? at h
  cases defined : s.defn? m.channel with
  | none => rfl
  | some d =>
    have : d.subs.get p = none := by simpa [defined] using h
    simp [this]

/-- The class of a subscribed port: the first condition of R53 that holds. -/
theorem State.classify_subscribed {m : Message} {p : Port} {d : ChannelDef} {b : Subscription}
    (defined : s.defn? m.channel = some d) (record : d.subs.get p = some b) :
    s.classify m p =
      if s.attached p = false then .offline
      else if b.accepts m.tag = false then .filtered
      else if d.kind = .stream then .stream b else .state := by
  simp only [State.classify, defined, record]
  cases s.attached p <;> cases b.accepts m.tag <;> cases d.kind <;> rfl

/-- What a placement event makes of the state, by the class of the port and the place for its entry. -/
theorem State.visit_unsubscribed {f : FanOut} {p : Port} {m : Message} (h : s.classify m p = .unsubscribed) :
    s.visit f p m = s.advance f p f.counts := by simp [State.visit, h]

theorem State.visit_offline {f : FanOut} {p : Port} {m : Message} (h : s.classify m p = .offline) :
    s.visit f p m = s.advance f p { f.counts with offline := f.counts.offline + 1 } := by simp [State.visit, h]

theorem State.visit_filtered {f : FanOut} {p : Port} {m : Message} (h : s.classify m p = .filtered) :
    s.visit f p m = s.advance f p { f.counts with filtered := f.counts.filtered + 1 } := by simp [State.visit, h]

theorem State.visit_state {f : FanOut} {p : Port} {m : Message} (h : s.classify m p = .state) :
    s.visit f p m = (s.notify m.channel p).advance f p { f.counts with placed := f.counts.placed + 1 } := by
  simp [State.visit, h]

theorem State.visit_placed {f : FanOut} {p : Port} {m : Message} {b : Subscription} {t : State}
    (h : s.classify m p = .stream b) (placed : s.placeStream p b (m.placed f.request) = (t, true)) :
    s.visit f p m = t.advance f p { f.counts with placed := f.counts.placed + 1 } := by simp [State.visit, h, placed]

theorem State.visit_dropped {f : FanOut} {p : Port} {m : Message} {b : Subscription} {t : State}
    (h : s.classify m p = .stream b) (dropped : s.placeStream p b (m.placed f.request) = (t, false)) :
    s.visit f p m = t.advance f p { f.counts with dropped := f.counts.dropped + 1 } := by simp [State.visit, h, dropped]

section
variable {p : Port} {b : Subscription} {e : Entry}

/-- There is room (R54). -/
theorem State.placeStream_room (depth : s.entriesOf p e.channel < b.depth) (limit : (s.queues.get p).length < 64) :
    s.placeStream p b e = (s.place p e, true) := by
  have room : s.hasRoom p b e.channel = true := by simp [State.hasRoom, depth, limit]
  simp [State.placeStream, room]

theorem State.hasRoom_eq_false {ch : ChannelId} (full : b.depth ≤ s.entriesOf p ch ∨ 64 ≤ (s.queues.get p).length) :
    s.hasRoom p b ch = false := by
  rcases full with h | h <;> simp [State.hasRoom, h]

/-- On overflow the oldest entry of the channel gives way (R55). -/
theorem State.placeStream_displaced {o : Entry} (full : b.depth ≤ s.entriesOf p e.channel ∨ 64 ≤ (s.queues.get p).length)
    (policy : b.policy = .keepNewest) (oldest : (s.queues.get p).find? (fun x => decide (x.channel = e.channel)) = some o) :
    s.placeStream p b e =
      (((((s.pullOldest p fun x => decide (x.channel = e.channel)).release o.slot).countLost p e.channel).place p e), true) := by
  have some : 0 < s.entriesOf p e.channel :=
    List.countP_pos_iff.2 ⟨o, List.mem_of_find?_eq_some oldest,
      List.find?_some (p := fun x : Entry => decide (x.channel = e.channel)) oldest⟩
  have displaces : s.displaces p b e.channel = true := by simp [State.displaces, policy, some]
  simp [State.placeStream, State.hasRoom_eq_false full, displaces, State.loseOldest, oldest]

/-- On overflow with nothing that may give way the message is dropped (R55). -/
theorem State.placeStream_dropped (full : b.depth ≤ s.entriesOf p e.channel ∨ 64 ≤ (s.queues.get p).length)
    (keeps : b.policy = .keepOldest ∨ s.entriesOf p e.channel = 0) : s.placeStream p b e = (s.countLost p e.channel, false) := by
  have displaces : s.displaces p b e.channel = false := by rcases keeps with h | h <;> simp [State.displaces, h]
  simp [State.placeStream, State.hasRoom_eq_false full, displaces]

end

/-- The cursor moves on in port order (R53). -/
theorem State.advance_eq (s : State) (f : FanOut) (p : Port) (n : Counts) :
    s.advance f p n =
      { s with
        engine := some
          { f with
            cursor := match p with
              | .A => .visit .B
              | .B => .visit .C
              | .C => .visit .D
              | .D => .finish
            counts := n } } := by
  cases p <;> rfl

/-! ### The fan-out end (R58) -/

theorem exec_fanOutEnd_of_ready {f : FanOut} {m : Message} (released : s.porAsserted = false) (spreading : s.engine = some f)
    (finished : f.cursor = .finish) (message : s.message? f.request.slot = some m) :
    exec .fanOutEnd s = .next (s.endFanOut f m) := by
  have ready : s.endReady = some (f, m) := by simp [State.endReady, released, spreading, finished, message]
  show execFanOutEnd s = _
  rw [execFanOutEnd, ready]

/-- A message that settles moves from SPREADING to LIVE and stays in any other phase. -/
theorem State.settle_of_message {i : SlotId} {x : Message} (use : (s.slots.get i).use = .message x) :
    s.updSlot i Slot.settle =
      { s with
        slots := s.slots.set i
          { s.slots.get i with use := .message { x with phase := if x.phase = .spreading then .live else x.phase } } } := by
  have record : (s.slots.get i).settle =
      { s.slots.get i with use := .message { x with phase := if x.phase = .spreading then .live else x.phase } } := by
    unfold Slot.settle Slot.withPhase
    split_ifs with h <;> simp [use, h]
    rw [← use]
  rw [State.updSlot, Table.modify, record]

/-- The deferred close looks at the channel as it was: neither the release nor the record touches it. -/
theorem State.endFanOut_eq (f : FanOut) (m : Message) :
    s.endFanOut f m =
      let settled := (s.release f.request.slot).updSlot f.request.slot Slot.settle
      let idle : State := { settled.retire f.request m f.outcome f.counts with engine := none }
      if (s.defn? m.channel).any fun d => decide (d.phase = .closing) then idle.closeChannel m.channel else idle := by
  have same : (({ ((s.release f.request.slot).updSlot f.request.slot Slot.settle).retire f.request m f.outcome f.counts with
      engine := none } : State)).defn? m.channel = s.defn? m.channel := by simp [State.defn?]
  simp only [State.endFanOut, State.closeIfClosing, same]

/-- A slot that carries no message settles as it is. -/
theorem State.settle_of_no_message {i : SlotId} (use : ∀ x, (s.slots.get i).use ≠ .message x) :
    s.updSlot i Slot.settle = s := by
  have record : (s.slots.get i).settle = s.slots.get i := by
    rcases (s.slots.get i).settle_eq with ⟨x, e, -⟩ | ⟨-, e⟩
    · exact absurd e (use x)
    · exact e
  rw [State.updSlot, Table.modify, record, Table.set_get]

end

/-! ### The statements -/

/-- Settles O24: `State.takeHead_eq`, then `State.installCurrent_eq` on a STATE channel. -/
theorem fanOutStartTakesTheHeadRequest : Obligations.FanOutStartTakesTheHeadRequest := by
  intro s r rest m released idle head use
  have run := exec_fanOutStart_of_ready released idle head (State.message?_eq_some.2 use)
  have taken := State.takeHead_eq rest use
  refine ⟨fun stream => ?_, fun d defined state => ?_⟩
  · have start : s.startFanOut r rest m = s.takeHead r rest := by
      have same : (s.takeHead r rest).defn? m.channel = s.defn? m.channel := rfl
      unfold State.startFanOut
      dsimp only
      rw [same]
      cases defined : s.defn? m.channel with
      | none => rfl
      | some d => simp only [stream d defined]
    rw [run, start, taken]
    rfl
  · have defined' : (s.takeHead r rest).defn? m.channel = some d := defined
    have start : s.startFanOut r rest m = (s.takeHead r rest).installCurrent m.channel d r.slot := by
      simp only [State.startFanOut, defined', state]
    rw [run, start, State.installCurrent_eq defined', taken]
    cases d.current <;> simp [Counts.zero]

/-- Settles O26: the first condition of R53 that holds names one of the `visit` lemmas. -/
theorem placementClassesThePort : Obligations.PlacementClassesThePort := by
  intro s f p m released spreading next message
  have run {t : State} {n : Counts} (visited : s.visit f p m = t.advance f p n) :=
    (exec_placementEvent_of_ready released spreading next message).trans
      (congrArg Host.Outcome.next (visited.trans (t.advance_eq f p n)))
  refine ⟨fun unsubscribed => run (State.visit_unsubscribed (State.classify_unsubscribed unsubscribed)),
    fun d b defined record => ?_⟩
  have class_eq := State.classify_subscribed defined record
  refine ⟨fun away => ?_, fun att rejects => ?_, fun att accepts stream => ?_, fun att accepts state => ?_⟩
  · exact run (State.visit_offline (by simp [class_eq, away]))
  · exact run (State.visit_filtered (by simp [class_eq, att, rejects]))
  · have streams : s.classify m p = .stream b := by simp [class_eq, att, accepts, stream]
    refine ⟨fun depth limit => ?_, fun full => ⟨fun o policy oldest => ?_, fun keeps => ?_⟩⟩
    · exact run (State.visit_placed streams (State.placeStream_room depth limit))
    · exact run (State.visit_placed streams (State.placeStream_displaced full policy oldest))
    · exact run (State.visit_dropped streams (State.placeStream_dropped full keeps))
  · exact run (State.visit_state (by simp [class_eq, att, accepts, state]))

/-- Settles O27: the slot settles (`State.settle_of_message`), the request is retired, and the deferred close looks at channels that
neither changed. -/
theorem fanOutEndMakesTheRecord : Obligations.FanOutEndMakesTheRecord := by
  intro s f m released spreading finished message
  rw [exec_fanOutEnd_of_ready released spreading finished message, State.endFanOut_eq]
  cases use : ((s.release f.request.slot).slots.get f.request.slot).use with
  | message x =>
    rw [State.settle_of_message use]
    simp only [use]
    rfl
  | free =>
    rw [State.settle_of_no_message (by simp [use])]
    simp only [use]
    rfl
  | filling ch q =>
    rw [State.settle_of_no_message (by simp [use])]
    simp only [use]
    rfl

end Sys2Proof.Machine
end

section
/-! How many entries of a channel a port's delivery queue may hold, and the relation that nearly every operation of the part
satisfies: no queue gains an entry or a request, and no room is lost. Placement and PUBLISH fill room that they have checked;
SUBSCRIBE, UNSUBSCRIBE and a close take room away where no entry needs it. -/

namespace Sys2Proof.Machine

set_option Elab.async false

/-! ### The room of a channel at a port (R68) -/

/-- The entries of the channel that the delivery queue of `p` may hold: the depth of its subscription on a STREAM channel, and
none without a subscription or on a STATE channel (R68). -/
def Channel.room (c : Channel) (p : Port) : Nat :=
  match c.defn with
  | none => 0
  | some d =>
    match d.kind with
    | .stream => ((d.subs.get p).map (·.depth)).getD 0
    | .state => 0

section
variable {c : Channel} {d : ChannelDef} {p : Port} {b : Subscription}

theorem Channel.room_of_unused (h : c.defn = none) (p : Port) : c.room p = 0 := by simp [Channel.room, h]

theorem Channel.room_of_absent (h : c.defn = some d) (absent : d.subs.get p = none) : c.room p = 0 := by
  cases kind : d.kind <;> simp [Channel.room, h, kind, absent]

theorem Channel.room_of_state (h : c.defn = some d) (kind : d.kind = .state) (p : Port) : c.room p = 0 := by
  simp [Channel.room, h, kind]

theorem Channel.room_of_stream (h : c.defn = some d) (kind : d.kind = .stream) (record : d.subs.get p = some b) :
    c.room p = b.depth := by
  simp [Channel.room, h, kind, record]

theorem Channel.room_le_depth (h : c.defn = some d) (record : d.subs.get p = some b) : c.room p ≤ b.depth := by
  cases kind : d.kind
  · exact (Channel.room_of_stream h kind record).le
  · exact (Channel.room_of_state h kind p).trans_le (Nat.zero_le _)

/-- The room depends on the definition's kind and depths alone. -/
theorem Channel.room_map {f : ChannelDef → ChannelDef} (kind : ∀ d, (f d).kind = d.kind)
    (depths : ∀ d, ((f d).subs.get p).map (·.depth) = (d.subs.get p).map (·.depth)) :
    { c with defn := c.defn.map f }.room p = c.room p := by
  cases defined : c.defn with
  | none => simp [Channel.room, defined]
  | some d => simp only [Channel.room, defined, Option.map_some, kind, depths]

end

/-- The invariant in terms of the room. -/
theorem State.queuesWithinLimits_iff {s : State} :
    s.QueuesWithinLimits ↔ (∀ p, (s.queues.get p).length ≤ 64) ∧
      (∀ p ch, s.entriesOf p ch ≤ (s.channels.get ch).room p) ∧ s.publishQueue.length ≤ 8 := by
  constructor
  · refine fun h => ⟨h.total, fun p ch => ?_, h.requests⟩
    cases defined : (s.channels.get ch).defn with
    | none => exact (h.subscribed p ch (by simp [State.sub?, State.defn?, defined])).trans_le (Nat.zero_le _)
    | some d =>
      cases kind : d.kind with
      | state => exact (h.stream p ch d defined kind).trans_le (Nat.zero_le _)
      | stream =>
        have sub : s.sub? ch p = d.subs.get p := by simp [State.sub?, State.defn?, defined]
        cases record : d.subs.get p with
        | none => exact (h.subscribed p ch (sub.trans record)).trans_le (Nat.zero_le _)
        | some b => exact (h.depth p ch b (sub.trans record)).trans_eq (Channel.room_of_stream defined kind record).symm
  · rintro ⟨total, room, requests⟩
    refine ⟨total, fun p ch b record => ?_, fun p ch absent => ?_, fun p ch d defined kind => ?_, requests⟩
    · obtain ⟨d, defined, record⟩ := Option.bind_eq_some_iff.1 record
      exact (room p ch).trans (Channel.room_le_depth defined record)
    · refine Nat.le_zero.1 ((room p ch).trans_eq ?_)
      cases defined : (s.channels.get ch).defn with
      | none => exact Channel.room_of_unused defined p
      | some d => exact Channel.room_of_absent defined (by simpa [State.sub?, State.defn?, defined] using absent)
    · exact Nat.le_zero.1 ((room p ch).trans_eq (Channel.room_of_state defined kind p))

/-! ### Queueing nothing -/

/-- Between `s` and `t` no delivery queue gains an entry, no port loses room, and the publish queue does not grow. -/
structure State.QueuesNoMore (s t : State) : Prop where
  queue : ∀ p, (t.queues.get p).Sublist (s.queues.get p)
  room : ∀ ch p, (s.channels.get ch).room p ≤ (t.channels.get ch).room p
  requests : t.publishQueue.length ≤ s.publishQueue.length

section
variable {s t u : State}

theorem State.QueuesNoMore.refl (s : State) : s.QueuesNoMore s := ⟨fun _ => .refl _, fun _ _ => le_rfl, le_rfl⟩

theorem State.QueuesNoMore.trans (h : s.QueuesNoMore t) (k : t.QueuesNoMore u) : s.QueuesNoMore u :=
  ⟨fun p => (k.queue p).trans (h.queue p), fun ch p => (h.room ch p).trans (k.room ch p), k.requests.trans h.requests⟩

/-- Field by field; an operation names the fields that it touches. -/
theorem State.QueuesNoMore.of_fields (queue : ∀ p, (t.queues.get p).Sublist (s.queues.get p) := by simp)
    (room : ∀ ch p, (s.channels.get ch).room p ≤ (t.channels.get ch).room p := by simp)
    (requests : t.publishQueue.length ≤ s.publishQueue.length := by simp) : s.QueuesNoMore t := ⟨queue, room, requests⟩

theorem State.QueuesNoMore.foldl {α : Type} {f : State → α → State} (h : ∀ (s : State) a, s.QueuesNoMore (f s a))
    (l : List α) (s : State) : s.QueuesNoMore (l.foldl f s) := by
  induction l generalizing s with
  | nil => exact .refl s
  | cons a l ih => exact (h s a).trans (ih (f s a))

theorem State.QueuesNoMore.entriesOf (k : s.QueuesNoMore t) (p : Port) (ch : ChannelId) :
    t.entriesOf p ch ≤ s.entriesOf p ch := (k.queue p).countP_le

theorem State.QueuesWithinLimits.entriesOf_le_room (h : s.QueuesWithinLimits) (p : Port) (ch : ChannelId) :
    s.entriesOf p ch ≤ (s.channels.get ch).room p := (State.queuesWithinLimits_iff.1 h).2.1 p ch

theorem State.QueuesWithinLimits.noMore (h : s.QueuesWithinLimits) (k : s.QueuesNoMore t) : t.QueuesWithinLimits :=
  State.queuesWithinLimits_iff.2 ⟨fun p => (k.queue p).length_le.trans (h.total p),
    fun p ch => (k.entriesOf p ch).trans ((h.entriesOf_le_room p ch).trans (k.room ch p)), k.requests.trans h.requests⟩

/-- Empty queues are within any limit. -/
theorem State.queuesWithinLimits_of_empty (queues : ∀ p, s.queues.get p = []) (requests : s.publishQueue = []) :
    s.QueuesWithinLimits :=
  State.queuesWithinLimits_iff.2 ⟨fun p => by simp [queues p], fun p ch => by simp [State.entriesOf, queues p],
    by simp [requests]⟩

/-- A changed channel keeps the limits where its entries fit into the room it leaves. -/
theorem State.QueuesWithinLimits.updChannel (h : s.QueuesWithinLimits) {ch : ChannelId} {f : Channel → Channel}
    (fits : ∀ p, s.entriesOf p ch ≤ (f (s.channels.get ch)).room p) : (s.updChannel ch f).QueuesWithinLimits := by
  refine State.queuesWithinLimits_iff.2 ⟨h.total, fun p c => ?_, h.requests⟩
  rw [State.updChannel_channels, Table.get_modify]
  split
  · next same => exact same ▸ fits p
  · exact h.entriesOf_le_room p c

end

end Sys2Proof.Machine
end

section
/-! The shared operations queue nothing. -/

namespace Sys2Proof.Machine

set_option Elab.async false

section
variable (s : State) (p : Port)

/-! ### Records that bear on no queue -/

theorem State.updWindow_queuesNoMore (f : Window → Window) : s.QueuesNoMore (s.updWindow p f) := .of_fields

theorem State.updPort_queuesNoMore (f : PortRecord → PortRecord) : s.QueuesNoMore (s.updPort p f) := .of_fields

theorem State.updEvents_queuesNoMore (f : EventUnit → EventUnit) : s.QueuesNoMore (s.updEvents p f) := .of_fields

theorem State.raise_queuesNoMore (e : Event) : s.QueuesNoMore (s.raise p e) := .of_fields

theorem State.raiseAll_queuesNoMore (e : Event) (ps : List Port) : s.QueuesNoMore (s.raiseAll e ps) := .of_fields

theorem State.updSlot_queuesNoMore (i : SlotId) (f : Slot → Slot) : s.QueuesNoMore (s.updSlot i f) := .of_fields

theorem State.addRef_queuesNoMore (i : SlotId) : s.QueuesNoMore (s.addRef i) := .of_fields

theorem State.release_queuesNoMore (i : SlotId) : s.QueuesNoMore (s.release i) := .of_fields

theorem State.releaseAll_queuesNoMore (is : List SlotId) : s.QueuesNoMore (s.releaseAll is) := .of_fields

theorem State.setHold_queuesNoMore (h : Option Hold) : s.QueuesNoMore (s.setHold p h) := .of_fields

theorem State.emptyHold_queuesNoMore : s.QueuesNoMore (s.emptyHold p) := .of_fields

/-! ### Channel records -/

/-- A changed channel that loses no room. -/
theorem State.updChannel_queuesNoMore {ch : ChannelId} {f : Channel → Channel}
    (h : ∀ p, (s.channels.get ch).room p ≤ (f (s.channels.get ch)).room p) : s.QueuesNoMore (s.updChannel ch f) := by
  refine .of_fields (room := fun c p => ?_)
  rw [State.updChannel_channels, Table.get_modify]
  split
  · next same => exact same ▸ h p
  · exact le_rfl

/-- A changed definition that keeps kind and depths. -/
theorem State.updDefn_queuesNoMore (ch : ChannelId) {f : ChannelDef → ChannelDef} (kind : ∀ d, (f d).kind = d.kind)
    (depths : ∀ d p, ((f d).subs.get p).map (·.depth) = (d.subs.get p).map (·.depth)) : s.QueuesNoMore (s.updDefn ch f) :=
  s.updChannel_queuesNoMore fun p => (Channel.room_map kind fun d => depths d p).ge

/-- Changing one port's record keeps every depth that the change keeps. -/
theorem depths_modify (f : Subscription → Subscription) (depth : ∀ b, (f b).depth = b.depth)
    (subs : PerPort (Option Subscription)) (p q : Port) :
    ((subs.modify p (Option.map f)).get q).map (·.depth) = (subs.get q).map (·.depth) := by
  rw [PerPort.get_modify]
  split
  · next same => simp [same, Function.comp_def, depth]
  · rfl

theorem State.updSub_queuesNoMore (ch : ChannelId) {f : Subscription → Subscription} (depth : ∀ b, (f b).depth = b.depth) :
    s.QueuesNoMore (s.updSub ch p f) :=
  s.updDefn_queuesNoMore ch (fun _ => rfl) fun d q => depths_modify f depth d.subs p q

theorem Channel.clearNew_room (c : Channel) (q : Port) : (c.clearNew p).room q = c.room q :=
  Channel.room_map (fun _ => rfl) fun d => depths_modify (fun b => { b with new := false }) (fun _ => rfl) d.subs p q

theorem State.clearNews_queuesNoMore : s.QueuesNoMore (s.clearNews p) := by
  refine .of_fields (room := fun ch q => ?_)
  rw [State.clearNews, Table.get_map, Channel.clearNew_room]

theorem State.countLost_queuesNoMore (ch : ChannelId) : s.QueuesNoMore (s.countLost p ch) := by
  refine .trans ?_ (State.raise_queuesNoMore _ p _)
  exact s.updSub_queuesNoMore p ch fun _ => rfl

theorem State.countExpired_queuesNoMore (ch : ChannelId) : s.QueuesNoMore (s.countExpired p ch) := by
  refine .trans ?_ (State.raise_queuesNoMore _ p _)
  exact s.updSub_queuesNoMore p ch fun _ => rfl

theorem State.notify_queuesNoMore (ch : ChannelId) : s.QueuesNoMore (s.notify ch p) := by
  refine .trans ?_ (State.raise_queuesNoMore _ p _)
  exact s.updSub_queuesNoMore p ch fun _ => rfl

/-! ### Entries leave delivery queues -/

theorem State.setQueue_queuesNoMore {l : List Entry} (h : l.Sublist (s.queues.get p)) : s.QueuesNoMore (s.setQueue p l) := by
  refine .of_fields (queue := fun q => ?_)
  rw [State.setQueue_queues, PerPort.get_set]
  split
  · next same => exact same ▸ h
  · exact .refl _

theorem State.dropEntries_queuesNoMore (f : Entry → Bool) : s.QueuesNoMore (s.dropEntries p f) :=
  (s.setQueue_queuesNoMore p List.filter_sublist).trans (State.releaseAll_queuesNoMore _ _)

theorem State.pullOldest_queuesNoMore (f : Entry → Bool) : s.QueuesNoMore (s.pullOldest p f) :=
  s.setQueue_queuesNoMore p List.eraseP_sublist

theorem State.loseOldest_queuesNoMore (ch : ChannelId) : s.QueuesNoMore (s.loseOldest p ch) := by
  unfold State.loseOldest
  split
  · exact ((s.pullOldest_queuesNoMore p _).trans (State.release_queuesNoMore _ _)).trans (State.countLost_queuesNoMore _ p ch)
  · exact .refl s

theorem State.trim_queuesNoMore (ch : ChannelId) (k : Nat) : s.QueuesNoMore (s.trim p ch k) := by
  induction k generalizing s with
  | zero => exact .refl s
  | succ k ih => exact (s.loseOldest_queuesNoMore p ch).trans (ih _)

/-! ### Requests leave the publish queue (R36, R63) -/

theorem State.withdraw_queuesNoMore (o : PublishOutcome) (f : Request → Bool) :
    s.QueuesNoMore ((s.publishQueue.filter f).foldl (fun t r => t.withdraw o r)
      { s with publishQueue := s.publishQueue.filter fun r => !f r }) :=
  .of_fields (requests := by simpa using List.length_filter_le ..)

theorem State.closeRequests_queuesNoMore (ch : ChannelId) : s.QueuesNoMore (s.closeRequests ch) :=
  s.withdraw_queuesNoMore .channelClosed (s.requestOn ch)

theorem State.closeEntries_queuesNoMore (ch : ChannelId) : s.QueuesNoMore (s.closeEntries ch) :=
  .foldl (fun t p => t.dropEntries_queuesNoMore p fun e => decide (e.channel = ch)) Port.all s

/-! ### Expiry and ticks (R119, R120) -/

theorem State.expireEntries_queuesNoMore (i : SlotId) (ch : ChannelId) : s.QueuesNoMore (s.expireEntries i ch p) := by
  unfold State.expireEntries
  split
  · exact (s.dropEntries_queuesNoMore p _).trans (State.countExpired_queuesNoMore _ p ch)
  · exact .refl s

theorem State.withdrawCurrent_queuesNoMore (ch : ChannelId) (i : SlotId) : s.QueuesNoMore (s.withdrawCurrent ch i) := by
  unfold State.withdrawCurrent
  split
  · exact .refl s
  next d _ =>
  split
  · refine .trans ?_ (State.release_queuesNoMore _ i)
    refine .trans (.foldl (fun t p => t.countExpired_queuesNoMore p ch) d.unread s) ?_
    exact State.updDefn_queuesNoMore _ ch (fun _ => rfl) fun e q => by simp [Function.comp_def]
  · exact .refl s

theorem State.expireLive_queuesNoMore (i : SlotId) (m : Message) : s.QueuesNoMore (s.expireLive i m) := by
  refine .trans ?_ (State.withdrawCurrent_queuesNoMore _ m.channel i)
  exact (s.updSlot_queuesNoMore i _).trans (.foldl (fun t p => t.expireEntries_queuesNoMore p i m.channel) Port.all _)

theorem State.markExpired_queuesNoMore (i : SlotId) : s.QueuesNoMore (s.markExpired i) := .of_fields

theorem State.expireSlot_queuesNoMore (i : SlotId) (m : Message) : s.QueuesNoMore (s.expireSlot i m) := by
  unfold State.expireSlot
  split
  · exact s.withdraw_queuesNoMore .expired fun r => decide (r.slot = i)
  · exact (s.markExpired_queuesNoMore i).trans (State.expireLive_queuesNoMore _ i m)
  · exact s.expireLive_queuesNoMore i m
  · exact .refl s

theorem State.takeLifetime_queuesNoMore (i : SlotId) : s.QueuesNoMore (s.takeLifetime i) := by
  have taken : s.QueuesNoMore { s with due := { s.due with slots := s.due.slots.filter fun j => decide (j ≠ i) } } := .of_fields
  unfold State.takeLifetime
  dsimp only
  split
  · exact taken
  split
  · exact taken.trans (State.expireSlot_queuesNoMore _ i _)
  · exact taken

/-! ### A port leaves (R127, R131, R132, R134) -/

theorem State.orphanPublishes_queuesNoMore : s.QueuesNoMore (s.orphanPublishes p) :=
  .of_fields (requests := by simp [State.orphanPublishes])

theorem State.purge_queuesNoMore : s.QueuesNoMore (s.purge p) := by
  have last : ∀ u : State, u.QueuesNoMore ((((u.purgeLocks p).withdrawVote p).clearPending p).dropReports p) :=
    fun _ => .of_fields
  refine .trans (t := (s.updWindow p Window.discard).purgeReservation p) .of_fields ?_
  refine (State.dropEntries_queuesNoMore _ p fun _ => true).trans ?_
  refine (State.emptyHold_queuesNoMore _ p).trans ?_
  refine (State.clearNews_queuesNoMore _ p).trans ((State.orphanPublishes_queuesNoMore _ p).trans ?_)
  exact last _

theorem State.charge_queuesNoMore : s.QueuesNoMore (s.charge p) := by
  unfold State.charge
  dsimp only
  split_ifs
  · exact .trans .of_fields (State.purge_queuesNoMore _ p)
  · exact .of_fields
  · exact .of_fields

theorem State.score_queuesNoMore (k : ReportKind) : s.QueuesNoMore (s.score p k) := by
  unfold State.score
  split
  · cases k with
    | success => exact .of_fields
    | refusal => exact .refl s
    | fault => exact s.charge_queuesNoMore p
    | leaseExpiry => exact s.charge_queuesNoMore p
  · exact .refl s

theorem State.detached_queuesNoMore : s.QueuesNoMore (s.detached p) :=
  .trans (t := s.lowerScore p) .of_fields ((State.purge_queuesNoMore _ p).trans (State.updPort_queuesNoMore _ p _))

theorem State.portReset_queuesNoMore : s.QueuesNoMore (s.portReset p) := by
  have byState : s.QueuesNoMore (s.portResetByState p) := by
    unfold State.portResetByState
    split
    · exact (s.purge_queuesNoMore p).trans (State.updPort_queuesNoMore _ p _)
    · exact (s.updWindow_queuesNoMore p _).trans (State.updEvents_queuesNoMore _ p _)
  exact byState.trans ((State.updEvents_queuesNoMore _ p _).trans (State.updWindow_queuesNoMore _ p _))

end

end Sys2Proof.Machine
end

section
/-! Every row keeps the delivery queues and the publish queue within their limits. -/

namespace Sys2Proof.Machine

set_option Elab.async false

section
variable {s t : State} {p q : Port} {ch : ChannelId}

/-! ### Channels are reconfigured (R31, R32, R34, R36) -/

/-- A subscription record set or removed changes the room of one port alone. -/
theorem Channel.room_setSub_other (h : p ≠ q) (c : Channel) (x : Option Subscription) :
    ({ c with defn := c.defn.map fun d => { d with subs := d.subs.set q x } } : Channel).room p = c.room p :=
  Channel.room_map (fun _ => rfl) fun d => congrArg _ (PerPort.get_set_other d.subs x h)

theorem State.setSub_room_other (s : State) {c : ChannelId} (h : p = q → c ≠ ch) (x : Option Subscription) :
    ((s.setSub ch q x).channels.get c).room p = (s.channels.get c).room p := by
  rw [State.setSub, State.updDefn_channels, Table.get_modify]
  split
  · next same => exact same ▸ Channel.room_setSub_other (fun e => h e same) (s.channels.get ch) x
  · rfl

/-- After a subscription record is set or removed, the limits hold as soon as they hold for its port on its channel. -/
theorem State.QueuesWithinLimits.setSub_then (h : s.QueuesWithinLimits) {x : Option Subscription}
    (k : (s.setSub ch q x).QueuesNoMore t) (fits : t.entriesOf q ch ≤ (t.channels.get ch).room q) : t.QueuesWithinLimits := by
  refine State.queuesWithinLimits_iff.2 ⟨fun p => ?_, fun p c => ?_, ?_⟩
  · exact (k.queue p).length_le.trans (by simpa using h.total p)
  · by_cases same : p = q ∧ c = ch
    · obtain ⟨rfl, rfl⟩ := same
      exact fits
    · calc
        t.entriesOf p c ≤ (s.setSub ch q x).entriesOf p c := k.entriesOf p c
        _ = s.entriesOf p c := by simp [State.entriesOf]
        _ ≤ (s.channels.get c).room p := h.entriesOf_le_room p c
        _ = ((s.setSub ch q x).channels.get c).room p := (s.setSub_room_other (fun e e' => same ⟨e, e'⟩) x).symm
        _ ≤ (t.channels.get c).room p := k.room c p
  · exact k.requests.trans (by simpa using h.requests)

/-- A new subscription, or the end of one, meets no entry of its channel. -/
theorem State.QueuesWithinLimits.setSub (h : s.QueuesWithinLimits) (none : s.entriesOf q ch = 0) (x : Option Subscription) :
    (s.setSub ch q x).QueuesWithinLimits := by
  refine h.setSub_then (.refl (s.setSub ch q x)) ?_
  have same : (s.setSub ch q x).entriesOf q ch = s.entriesOf q ch := by simp [State.entriesOf]
  simp [same, none]

/-- Of the channel's entries a trim leaves all but those it takes. -/
theorem State.trim_entriesOf (s : State) (p : Port) (ch : ChannelId) (k : Nat) :
    (s.trim p ch k).entriesOf p ch = s.entriesOf p ch - k := by
  rw [State.entriesOf, State.entriesOf, List.countP_eq_length_filter, List.countP_eq_length_filter, State.trim_queues,
    List.length_drop]

/-- A replaced subscription trims what its new depth leaves no room for (R32). -/
theorem State.QueuesWithinLimits.resubscribe (h : s.QueuesWithinLimits) {d : ChannelDef} (defined : s.defn? ch = some d)
    (x : Subscription) :
    ((s.setSub ch q (some x)).trim q ch (s.excess q ch d.kind x.depth)).QueuesWithinLimits := by
  have trimmed := (s.setSub ch q (some x)).trim_queuesNoMore q ch (s.excess q ch d.kind x.depth)
  refine h.setSub_then trimmed (le_trans ?_ (trimmed.room ch q))
  have definition : ((s.setSub ch q (some x)).channels.get ch).defn = some { d with subs := d.subs.set q (some x) } := by
    rw [State.setSub_of_defn defined, Table.get_set_same]
  have entries : (s.setSub ch q (some x)).entriesOf q ch = s.entriesOf q ch := by simp [State.entriesOf]
  rw [State.trim_entriesOf, entries, State.excess_eq]
  cases kind : d.kind with
  | stream =>
    rw [Channel.room_of_stream definition kind (PerPort.get_set_same ..), if_pos rfl]
    omega
  | state => simp [h.stream q ch d defined kind]

/-- A drop of a channel's entries leaves none of them. -/
theorem State.dropEntries_entriesOf (s : State) (p : Port) (ch : ChannelId) :
    (s.dropEntries p fun e => decide (e.channel = ch)).entriesOf p ch = 0 := by
  rw [State.entriesOf, State.dropEntries_queues, if_pos rfl]
  simp [List.countP_eq_zero]

/-- A close takes the channel's room away after its entries (R36). -/
theorem State.QueuesWithinLimits.closeChannel (h : s.QueuesWithinLimits) (ch : ChannelId) :
    (s.closeChannel ch).QueuesWithinLimits := by
  cases defined : s.defn? ch with
  | none => simpa [State.closeChannel, defined] using h
  | some d =>
    rw [State.closeChannel_eq defined]
    refine State.QueuesWithinLimits.noMore ?_ (State.raiseAll_queuesNoMore _ _ _)
    have emptied := (s.closeRequests_queuesNoMore ch).trans (State.closeEntries_queuesNoMore _ ch)
    have closed : s.QueuesNoMore (((s.closeRequests ch).closeEntries ch).closeCurrent d) := by
      rw [State.closeCurrent_eq]
      exact emptied.trans (State.releaseAll_queuesNoMore _ _)
    refine (h.noMore closed).updChannel fun p => ?_
    have gone : (((s.closeRequests ch).closeEntries ch).closeCurrent d).entriesOf p ch = 0 := by
      simp [State.entriesOf, State.closeEntries_queues, List.countP_eq_zero]
    simp [gone]

theorem State.QueuesWithinLimits.closeIfClosing (h : s.QueuesWithinLimits) (ch : ChannelId) :
    (s.closeIfClosing ch).QueuesWithinLimits := by
  unfold State.closeIfClosing
  split
  · exact h.closeChannel ch
  · exact h

/-! ### Publishing and fan-out (R45, R46, R52 to R58) -/

theorem State.requests_of_publishCheck {d : ChannelDef} {a : Words6} (h : s.publishCheck p d a = none) :
    s.publishQueue.length < 8 := by
  unfold State.publishCheck at h
  split_ifs at h with _ _ _ _ _ full
  exact Nat.lt_of_not_le full

/-- An accepted PUBLISH finds a place in the publish queue (R45, R50). -/
theorem State.QueuesWithinLimits.acceptPublish (h : s.QueuesWithinLimits) (place : s.publishQueue.length < 8) (i : SlotId)
    (owner : Port) (d : ChannelDef) (a : Words6) : (s.acceptPublish p i ch owner d a).QueuesWithinLimits := by
  rw [State.acceptPublish_eq]
  refine State.queuesWithinLimits_iff.2 ⟨h.total, fun q c => ?_, by simpa using place⟩
  refine (h.entriesOf_le_room q c).trans_eq ?_
  dsimp only
  rw [Table.get_set]
  split
  · next same => rw [same]; rfl
  · rfl

theorem State.takeHead_queuesNoMore {r : Request} {rest : List Request} (head : s.publishQueue = r :: rest) :
    s.QueuesNoMore (s.takeHead r rest) :=
  .of_fields (requests := by simp [State.takeHead, head])

theorem State.installCurrent_queuesNoMore (s : State) (ch : ChannelId) (d : ChannelDef) (i : SlotId) :
    s.QueuesNoMore (s.installCurrent ch d i) := by
  have installed : s.QueuesNoMore ((s.addRef i).updDefn ch fun e => { e with current := some i }) :=
    (s.addRef_queuesNoMore i).trans (State.updDefn_queuesNoMore _ ch (fun _ => rfl) fun _ _ => rfl)
  unfold State.installCurrent
  dsimp only
  split
  · exact installed.trans (State.release_queuesNoMore _ _)
  · exact installed

theorem State.startFanOut_queuesNoMore {r : Request} {rest : List Request} (head : s.publishQueue = r :: rest) (m : Message) :
    s.QueuesNoMore (s.startFanOut r rest m) := by
  have taken := State.takeHead_queuesNoMore head
  unfold State.startFanOut
  dsimp only
  split
  · exact taken
  split
  · exact taken
  · exact taken.trans (State.installCurrent_queuesNoMore _ _ _ _)

theorem State.advance_queuesNoMore (s : State) (f : FanOut) (p : Port) (n : Counts) : s.QueuesNoMore (s.advance f p n) := by
  unfold State.advance
  exact .of_fields

/-- An entry is placed where the queue and the channel have room for it (R54). -/
theorem State.QueuesWithinLimits.place (h : s.QueuesWithinLimits) {e : Entry} (total : (s.queues.get p).length < 64)
    (room : s.entriesOf p e.channel < (s.channels.get e.channel).room p) : (s.place p e).QueuesWithinLimits := by
  have queue : ∀ q, (s.place p e).queues.get q = if q = p then s.queues.get p ++ [e] else s.queues.get q := fun q =>
    PerPort.get_set ..
  refine State.queuesWithinLimits_iff.2 ⟨fun q => ?_, fun q c => ?_, by simpa using h.requests⟩
  · rw [queue]
    split
    · simpa using total
    · exact h.total q
  · have before := h.entriesOf_le_room q c
    have channels : (s.place p e).channels = s.channels := by simp
    rw [State.entriesOf, queue, channels]
    split
    · next same =>
      rw [List.countP_append, List.countP_singleton, same]
      by_cases named : e.channel = c
      · subst named
        simpa [State.entriesOf] using Nat.succ_le_of_lt room
      · simpa [named] using same ▸ before
    · exact before

/-- A STREAM message is for a channel whose room is the depth of the port's subscription (R53). -/
theorem State.room_of_classify {m : Message} {b : Subscription} (h : s.classify m p = .stream b) :
    (s.channels.get m.channel).room p = b.depth := by
  unfold State.classify at h
  split at h
  · cases h
  next d defined =>
  split at h
  · cases h
  next x record =>
  split_ifs at h
  split at h
  · next kind =>
    cases h
    exact Channel.room_of_stream defined kind record
  · cases h

/-- A loss makes a place in the queue and room for an entry of the channel (R55). -/
theorem State.loseOldest_makesRoom (some : 0 < s.entriesOf p ch) :
    ((s.loseOldest p ch).queues.get p).length < (s.queues.get p).length ∧
      (s.loseOldest p ch).entriesOf p ch < s.entriesOf p ch := by
  have entries := s.trim_entriesOf p ch 1
  obtain ⟨e, member, named⟩ := List.countP_pos_iff.1 some
  refine ⟨?_, by simp only [State.trim] at entries; omega⟩
  rw [State.loseOldest_queues, List.length_eraseP_of_mem member named]
  exact Nat.sub_lt (List.length_pos_of_mem member) Nat.one_pos

theorem State.QueuesWithinLimits.placeStream (h : s.QueuesWithinLimits) {b : Subscription} {e : Entry}
    (depth : (s.channels.get e.channel).room p = b.depth) : (s.placeStream p b e).1.QueuesWithinLimits := by
  unfold State.placeStream
  split_ifs with room displaces
  · obtain ⟨below, total⟩ := Bool.and_eq_true_iff.1 room
    exact h.place (of_decide_eq_true total) (depth ▸ of_decide_eq_true below)
  · have some : 0 < s.entriesOf p e.channel := of_decide_eq_true (Bool.and_eq_true_iff.1 displaces).2
    obtain ⟨place, fewer⟩ := State.loseOldest_makesRoom some
    have lost := s.loseOldest_queuesNoMore p e.channel
    refine (h.noMore lost).place (place.trans_le (h.total p)) ?_
    exact fewer.trans_le ((h.entriesOf_le_room p e.channel).trans (lost.room e.channel p))
  · exact h.noMore (s.countLost_queuesNoMore p e.channel)

theorem State.QueuesWithinLimits.visit (h : s.QueuesWithinLimits) (f : FanOut) (p : Port) (m : Message) :
    (s.visit f p m).QueuesWithinLimits := by
  have advances : ∀ {u : State} n, u.QueuesWithinLimits → (u.advance f p n).QueuesWithinLimits := fun n k =>
    k.noMore (State.advance_queuesNoMore _ f p n)
  unfold State.visit
  dsimp only
  split
  case h_1 | h_2 | h_3 => exact advances _ h
  case h_4 b stream =>
    have placed := h.placeStream (e := m.placed f.request) (State.room_of_classify stream)
    split
    all_goals
      next e =>
      rw [e] at placed
      exact advances _ placed
  case h_5 => exact advances _ (h.noMore (s.notify_queuesNoMore p m.channel))

theorem State.QueuesWithinLimits.endFanOut (h : s.QueuesWithinLimits) (f : FanOut) (m : Message) :
    (s.endFanOut f m).QueuesWithinLimits := by
  have retired : ∀ (u : State) o n, u.QueuesNoMore { u.retire f.request m o n with engine := none } := fun _ _ _ => .of_fields
  unfold State.endFanOut
  refine State.QueuesWithinLimits.closeIfClosing (h.noMore ?_) _
  exact (s.release_queuesNoMore _).trans ((State.updSlot_queuesNoMore _ _ _).trans (retired _ _ _))

/-! ### Resets (R43, R67, R152) -/

theorem State.deviceReset_queuesWithinLimits (s : State) : s.deviceReset.QueuesWithinLimits :=
  State.queuesWithinLimits_of_empty (fun _ => PerPort.get_all ..) rfl

theorem State.powerOn_queuesWithinLimits (s : State) : s.powerOn.QueuesWithinLimits :=
  State.queuesWithinLimits_of_empty (fun _ => PerPort.get_all ..) rfl

theorem State.QueuesWithinLimits.takeAuthorization (h : s.QueuesWithinLimits) : s.takeAuthorization.QueuesWithinLimits := by
  have taken : ∀ (d : Due) (x : Device), s.QueuesNoMore { s with due := d, device := x } := fun _ _ => .of_fields
  unfold State.takeAuthorization
  dsimp only
  split_ifs
  · exact State.deviceReset_queuesWithinLimits _
  · exact h.noMore (taken _ _)
  · exact h.noMore (taken _ s.device)

theorem State.QueuesWithinLimits.baseTick (h : s.QueuesWithinLimits) : s.baseTick.QueuesWithinLimits :=
  State.baseTick_keeps (fun u i k => k.noMore (u.takeLifetime_queuesNoMore i)) (fun _ k => k.noMore .of_fields)
    (fun _ k => k.noMore .of_fields) (fun _ k => k.takeAuthorization) (fun u _ => u.deviceReset_queuesWithinLimits)
    (fun _ k => k.noMore .of_fields) h

/-! ### Every row -/

theorem State.withGeometry_queuesNoMore (s : State) (g : Geometry) : s.QueuesNoMore (s.withGeometry g) := by
  unfold State.withGeometry
  exact .of_fields

theorem State.setPhase_queuesNoMore (s : State) (ch : ChannelId) (d : ChannelDef) (x : ChannelPhase) :
    s.QueuesNoMore (s.setPhase ch d x) := by
  refine .trans ?_ (State.raiseAll_queuesNoMore _ .channel _)
  exact s.updDefn_queuesNoMore ch (fun _ => rfl) fun _ _ => rfl

theorem State.readCurrent_queuesNoMore (s : State) (p : Port) (ch : ChannelId) (i : SlotId) (m : Message) :
    s.QueuesNoMore (s.readCurrent p ch i m) := by
  refine .trans ?_ (State.updSub_queuesNoMore _ p ch fun _ => rfl)
  exact (s.addRef_queuesNoMore i).trans (State.setHold_queuesNoMore _ p _)

theorem State.locationFaulted_queuesNoMore (s : State) (p : Port) (r : Response) (o : Byte) :
    s.QueuesNoMore (s.locationFaulted p r o) := by
  unfold State.locationFaulted
  exact .of_fields

theorem State.storeWord_queuesNoMore (s : State) (i : SlotId) (k : Nat) (w : Word) : s.QueuesNoMore (s.storeWord i k w) := by
  unfold State.storeWord
  exact .of_fields

theorem State.shown_queuesNoMore (s : State) (p : Port) (c : Command) (r : Response) (w : Words6) :
    s.QueuesNoMore (s.shown p c r w) := by
  unfold State.shown
  exact .of_fields

theorem State.posted_queuesNoMore (s : State) (p : Port) (c : Command) (r : Response) (w : Words6) :
    s.QueuesNoMore (s.posted p c r w) :=
  (s.shown_queuesNoMore p c r w).trans (.of_fields (t := { s.shown p c r w with reports := _ }))

/-- What a command makes of the state keeps the limits. -/
theorem State.Takes.queuesWithinLimits {a : Words6} {c : Command} (k : s.Takes p a c t) (h : s.QueuesWithinLimits) :
    t.QueuesWithinLimits := by
  cases k
  case detach => exact h.noMore (s.detached_queuesNoMore p)
  case setGeometry g _ _ _ => exact h.noMore (s.withGeometry_queuesNoMore g)
  case publish i ch q d _ _ _ _ _ passed => exact h.acceptPublish (State.requests_of_publishCheck passed) i q d a
  case take => exact h.noMore ((s.pullOldest_queuesNoMore p _).trans (State.setHold_queuesNoMore _ p _))
  case discard => exact h.noMore ((s.pullOldest_queuesNoMore p _).trans (State.release_queuesNoMore _ _))
  case readState ch _ i m _ _ _ _ _ _ => exact h.noMore (s.readCurrent_queuesNoMore p ch i m)
  case defineChannel ch _ _ unused =>
    refine h.updChannel fun q => ?_
    simp [h.subscribed q ch (by simp [State.sub?, unused])]
  case setChannel ch _ _ _ => exact h.noMore (s.updDefn_queuesNoMore ch (fun _ => rfl) fun _ _ => rfl)
  case subscribeNew ch q _ _ d _ _ openFor absent =>
    exact h.setSub (h.subscribed q ch (by simp [State.sub?, State.defn_of_openJudge openFor, absent])) _
  case subscribeAgain ch q _ _ d _ _ _ openFor _ => exact h.resubscribe (State.defn_of_openJudge openFor) _
  case unsubscribe ch q _ _ _ _ _ =>
    exact (h.noMore (s.dropEntries_queuesNoMore q _)).setSub (s.dropEntries_entriesOf q ch) none
  case suspend ch d _ _ => exact h.noMore (s.setPhase_queuesNoMore ch d _)
  case resume ch d _ _ => exact h.noMore (s.setPhase_queuesNoMore ch d _)
  case closeDeferred ch _ _ _ => exact h.noMore (s.updDefn_queuesNoMore ch (fun _ => rfl) fun _ _ => rfl)
  case closeNow ch _ _ _ => exact h.closeChannel ch
  case freezeChannel ch => exact h.noMore (s.updChannel_queuesNoMore fun _ => le_rfl)
  case clearCounts ch _ _ => exact h.noMore (s.updSub_queuesNoMore p ch fun _ => rfl)
  all_goals exact h.noMore .of_fields

/-- What an event or an access makes of the state keeps the limits. -/
theorem State.Happens.queuesWithinLimits (k : s.Happens t) (h : s.QueuesWithinLimits) : t.QueuesWithinLimits := by
  cases k
  case locationFault p r o => exact h.noMore (s.locationFaulted_queuesNoMore p r o)
  case filled p i w _ _ _ =>
    exact h.noMore ((s.storeWord_queuesNoMore i _ w).trans (State.updWindow_queuesNoMore _ p _))
  case plainWritten p off w => exact h.noMore (s.updWindow_queuesNoMore p _)
  case powerOn => exact s.powerOn_queuesWithinLimits
  case portReset p => exact h.noMore (s.portReset_queuesNoMore p)
  case ticked => exact h.baseTick
  case lifetimeEnds i _ => exact h.noMore (s.takeLifetime_queuesNoMore i)
  case authorizationTicks => exact h.takeAuthorization
  case scored p kind _ => exact h.noMore (.trans .of_fields (State.score_queuesNoMore _ p kind))
  case fanOutStarts r rest m _ head _ => exact h.noMore (State.startFanOut_queuesNoMore head m)
  case visited f p m _ _ _ => exact h.visit f p m
  case fanOutEnds f m _ _ _ => exact h.endFanOut f m
  all_goals exact h.noMore .of_fields

end

/-- Settles O57: a row queues nothing more (`State.QueuesNoMore`), or places an entry or a request where it has found room, or takes
room away that no entry needs. -/
theorem everyStepKeepsQueuesWithinLimits : Obligations.EveryStepKeepsQueuesWithinLimits := by
  intro s t hs h
  refine step_keeps (P := State.QueuesWithinLimits) (fun u rest k => ?_) (fun u v hu k => ?_) hs h
  · exact k.noMore (State.QueuesNoMore.of_fields (t := { u with pending := rest }))
  · exact k.keeps (fun _ _ _ _ x => x.queuesWithinLimits hu) (fun _ _ _ _ _ x => x.noMore (State.shown_queuesNoMore ..))
      (fun _ _ _ _ _ x => x.noMore (State.posted_queuesNoMore ..)) (fun u _ => u.deviceReset_queuesWithinLimits)
      (fun _ x => x.queuesWithinLimits hu)

end Sys2Proof.Machine
end

section
/-! TAKE and the read locations, each against its statement. -/

namespace Sys2Proof.Machine

set_option Elab.async false

/-! ### TAKE (R72) -/

/-- The checks of TAKE pass: the oldest selected entry is pulled into the hold. -/
theorem State.takeAnswer_of_none {s : State} {p : Port} {a : Words6} {e : Entry}
    (h : judge (s.queueChecks .take p a) = none) (found : (s.queues.get p).find? (selects a.w0) = some e) :
    s.takeAnswer p a =
      let t := (s.pullOldest p (selects a.w0)).setHold p (some { entry := e, source := .stream, pointer := 0 })
      t.answer .ok (e.results (t.remaining p)) := by
  obtain ⟨running, h⟩ := judge_append_none h
  obtain ⟨traffic, -, -⟩ := State.trafficCheck_of_runChecks running
  obtain ⟨empty, h⟩ := judge_cons_none h
  obtain ⟨inRange, h⟩ := judge_cons_none h
  obtain ⟨defined, h⟩ := judge_cons_none h
  obtain ⟨subscribed, -⟩ := judge_cons_none h
  obtain ⟨x, selected, judged⟩ := State.entryJudge_of_find inRange defined subscribed found
  simp only [State.takeAnswer, traffic, empty, judged, selected, Bool.false_eq_true, if_false]

/-- Settles O28: no check refuses, and the answer pulls the entry that `find?` names. -/
theorem takeMovesTheOldestMatchingEntry : Obligations.TakeMovesTheOldestMatchingEntry := by
  intro s p a e issued checked found
  have answer := State.takeAnswer_of_none checked found
  have rest : (s.pullOldest p (selects a.w0)).queues.get p = (s.queues.get p).eraseP (selects a.w0) := PerPort.get_set_same ..
  simp only [State.remaining, State.setHold_queues, rest] at answer
  exact exec_of_answer (c := .take) issued answer

/-! ### READ_DATA (R76) -/

section
variable {s : State} {p : Port} {h : Hold}

theorem State.readable_eq_none (absent : s.attached p = false ∨ s.holds.get p = none) : s.readable p = none := by
  unfold State.readable
  rcases absent with away | empty
  · simp [away]
  · simp [empty]

/-- Only a pointer below the length reaches a byte (R76). -/
theorem State.readable_of_held (att : s.attached p = true) (held : s.holds.get p = some h) :
    s.readable p = if h.pointer < h.entry.length then some h else none := by
  simp [State.readable, att, held, Option.filter]

theorem exec_readData_of_none (released : s.porAsserted = false) (unreadable : s.readable p = none) :
    exec (.readData p) s = .next (s.driveData p 0) := by
  show s.readPayload p = _
  simp [State.readPayload, released, unreadable]

theorem exec_readData_of_some (released : s.porAsserted = false) (readable : s.readable p = some h)
    (inside : s.slotBase h.entry.slot + h.pointer + 1 < Config.storeSize) :
    exec (.readData p) s = .next ((s.driveData p (s.heldWord h)).setHold p (some { h with pointer := h.pointer + 2 })) := by
  show s.readPayload p = _
  simp [State.readPayload, released, readable, inside]

/-- The byte at the pointer in the low half, the next one, or 0 at the length, in the high half (R76). -/
theorem State.heldWord_eq (s : State) (h : Hold) :
    s.heldWord h =
      (if h.pointer + 1 < h.entry.length then Memory.read s.payload (s.slotBase h.entry.slot + h.pointer + 1) else 0) ++
        Memory.read s.payload (s.slotBase h.entry.slot + h.pointer) := by
  rw [← bytesWord_append, State.heldWord]
  split <;> rfl

/-! ### READ_POINTER (R77) -/

theorem Geometry.two_le_slotSize (g : Geometry) : 2 ≤ g.slotSize := by cases g <;> decide

theorem State.pointerInRange_iff {w : Word} :
    s.pointerInRange w = true ↔ w.toNat % 2 = 0 ∧ w.toNat ≤ s.geometry.slotSize - 2 := by
  have two := s.geometry.two_le_slotSize
  rw [State.pointerInRange, Bool.and_eq_true, decide_eq_true_eq, decide_eq_true_eq]
  exact and_congr_right fun _ => by omega

theorem exec_readPointer (released : s.porAsserted = false) (w : Word) :
    exec (.readPointer p w) s = .next (s.readPointer p w) := by
  show s.unlessPowerOn (s.readPointer p w) = _
  simp [State.unlessPowerOn, released]

theorem State.readPointer_of_absent (absent : s.attached p = false ∨ s.holds.get p = none) (w : Word) :
    s.readPointer p w = s := by
  unfold State.readPointer
  rcases absent with away | empty
  · simp [away]
  · simp [empty]

theorem State.readPointer_of_held (att : s.attached p = true) (held : s.holds.get p = some h) (w : Word) :
    s.readPointer p w =
      if w.toNat % 2 = 0 ∧ w.toNat ≤ s.geometry.slotSize - 2 then s.setHold p (some { h with pointer := w.toNat })
      else s.locationFaulted p .badArgument 0x25 := by
  rw [← State.locationFault_eq]
  simp only [State.readPointer, att, held, State.pointerInRange_iff, Bool.not_true, Bool.false_eq_true, if_false]
  rfl

end

/-- Settles O31: by the port's state, its hold and the pointer's place in the message. -/
theorem readLocationsReadTheHeldMessage : Obligations.ReadLocationsReadTheHeldMessage := by
  intro s p w released
  have pointer := exec_readPointer (p := p) released w
  refine ⟨fun absent => ⟨?_, ?_⟩, fun h att held => ⟨fun atEnd => ?_, fun below even inForce length => ?_, ?_⟩⟩
  · exact exec_readData_of_none released (State.readable_eq_none absent)
  · rw [pointer, State.readPointer_of_absent absent]
  · refine exec_readData_of_none released ?_
    rw [State.readable_of_held att held, if_neg (Nat.not_lt.2 atEnd)]
  · have readable : s.readable p = some h := by rw [State.readable_of_held att held, if_pos below]
    have inside := s.geometry.word_inside inForce (below.trans_le length) even
    rw [exec_readData_of_some released readable inside, State.heldWord_eq]
    rfl
  · rw [pointer, State.readPointer_of_held att held]
    rfl

end Sys2Proof.Machine
end

section
/-! READ_STATE, accepted, against its statement. -/

namespace Sys2Proof.Machine

set_option Elab.async false

section
variable {s : State} {p : Port} {a : Words6} {ch : ChannelId} {i : SlotId} {m : Message} {d : ChannelDef}
  {b : Subscription}

/-! ### The channel that is read, and its value (R88) -/

theorem State.valueFor_eq_some {w : Word} :
    s.valueFor p w = some (ch, i, m) ↔
      (if w = 0xFFFF then s.nextNews p else channel? w.toNat) = some ch ∧
        ((s.defn? ch).bind fun d => d.current) = some i ∧ s.message? i = some m := by
  simp only [State.valueFor, State.nextNews, State.defn?, Option.bind_eq_some_iff, Option.map_eq_some_iff, Prod.mk.injEq]
  constructor
  · rintro ⟨c, chosen, j, current, x, message, rfl, rfl, rfl⟩
    exact ⟨chosen, current, message⟩
  · rintro ⟨chosen, current, message⟩
    exact ⟨ch, chosen, i, current, m, message, rfl, rfl, rfl⟩

/-- Orders 4 to 6 of R88 as the table has them. -/
theorem State.stateChannelCheck_of_none (defined : (s.channelAt ch.val).isNone = false)
    (subscribed : (s.subAt ch.val p.index).isNone = false)
    (state : ((s.channelAt ch.val).any fun d => d.kind = .stream) = false) : s.stateChannelCheck p ch = none := by
  rw [State.channelAt_val] at defined state
  rw [State.subAt_val] at subscribed
  obtain ⟨d, hd⟩ := Option.isSome_iff_exists.1 (Option.isNone_eq_false_iff.1 defined)
  simp only [State.sub?, hd, Option.bind_some, Option.any_some, decide_eq_false_iff_not] at subscribed state
  simp [State.stateChannelCheck, hd, subscribed, state]

theorem State.readChannel_of_value (current : ((s.defn? ch).bind fun d => d.current) = some i)
    (message : s.message? i = some m) :
    s.readChannel p ch = (s.readCurrent p ch i m).answer .ok ((m.entry i).results (toWord (s.newFlag p ch).toNat)) := by
  simp only [State.readChannel, current, message]

/-- The checks of READ_STATE pass: the chosen channel's current value is read. -/
theorem State.readStateAnswer_of_none (h : judge (s.readStateChecks p a) = none)
    (value : s.valueFor p a.w0 = some (ch, i, m)) :
    s.readStateAnswer p a =
      (s.readCurrent p ch i m).answer .ok ((m.entry i).results (toWord (s.newFlag p ch).toNat)) := by
  obtain ⟨running, h⟩ := judge_append_none h
  obtain ⟨traffic, -, -⟩ := State.trafficCheck_of_runChecks running
  obtain ⟨-, h⟩ := judge_cons_none h
  obtain ⟨defined, h⟩ := judge_cons_none h
  obtain ⟨subscribed, h⟩ := judge_cons_none h
  obtain ⟨state, h⟩ := judge_cons_none h
  obtain ⟨empty, -⟩ := judge_cons_none h
  obtain ⟨chosen, current, message⟩ := State.valueFor_eq_some.1 value
  rw [← State.readChannel_of_value current message]
  by_cases any : a.w0 = 0xFFFF
  · rw [if_pos any] at chosen
    have selected : selector? a.w0 = some .any := if_pos any
    simp only [State.readStateAnswer, traffic, selected, empty, chosen, Bool.false_eq_true, if_false]
  · rw [if_neg any] at chosen
    have selected : selector? a.w0 = some (.channel ch) := by
      rw [selector?, anyWord, if_neg any, chosen]
      rfl
    have named : decide (a.w0 ≠ 0xFFFF) = true := decide_eq_true any
    rw [named, Bool.true_and, val_of_channel? chosen] at defined subscribed state
    have checked := State.stateChannelCheck_of_none defined subscribed state
    simp only [State.readStateAnswer, traffic, selected, checked, empty, Bool.false_eq_true, if_false]

/-! ### What the read leaves and reports (R89) -/

theorem State.updSub_of_defn (defined : (s.channels.get ch).defn = some d) (subscribed : d.subs.get p = some b)
    (f : Subscription → Subscription) :
    s.updSub ch p f =
      { s with
        channels := s.channels.set ch
          { s.channels.get ch with defn := some { d with subs := d.subs.set p (some (f b)) } } } := by
  rw [State.updSub, State.updDefn_of_defn defined, PerPort.modify, subscribed]
  rfl

theorem State.readCurrent_of_defn (defined : (s.channels.get ch).defn = some d) (subscribed : d.subs.get p = some b) :
    s.readCurrent p ch i m =
      { s with
        slots := s.slots.set i { s.slots.get i with refs := (s.slots.get i).refs + 1 }
        holds := s.holds.set p (some { entry := m.entry i, source := .state, pointer := 0 })
        channels := s.channels.set ch
          { s.channels.get ch with defn := some { d with subs := d.subs.set p (some { b with new := false }) } } } :=
  State.updSub_of_defn (s := (s.addRef i).setHold p _) defined subscribed _

/-- RESULT5 of READ_STATE is 1 for a set NEW flag and 0 for a cleared one. -/
theorem State.newFlag_word (defined : (s.channels.get ch).defn = some d) (subscribed : d.subs.get p = some b) :
    toWord (s.newFlag p ch).toNat = if b.new then 1 else 0 := by
  have flag : s.newFlag p ch = b.new := by simp [State.newFlag, State.sub?, State.defn?, defined, subscribed]
  rw [flag]
  cases b.new <;> rfl

end

/-- Settles O30: no check refuses, and the answer reads the chosen channel's value and changes its subscription record. -/
theorem readStateReadsTheCurrentValue : Obligations.ReadStateReadsTheCurrentValue := by
  intro s p a ch i m d b issued checked value defined subscribed
  have answer := State.readStateAnswer_of_none checked value
  rw [State.readCurrent_of_defn defined subscribed, State.newFlag_word defined subscribed] at answer
  exact exec_of_answer (c := .readState) issued answer

end Sys2Proof.Machine
end

section
/-! What R96 and R97 say of lock records and wait records, lock by lock, and how each operation of the lock table keeps it. The ports
that may hold and wait are a parameter: in the middle of a purge (R132) a port that is ATTACHED no more still stands in the records. -/

namespace Sys2Proof.Machine

/-! ### One lock's record (R96) -/

/-- What R96 says of one lock record; `here` names the ports that may hold it. -/
structure Lock.InOrder (k : Lock) (here : Port → Prop) : Prop where
  freeHasNoWaiters : k.grant = none → k.waiters = []
  noneTwice : k.waiters.Nodup
  neverItsHolder : ∀ g, k.grant = some g → g.holder ∉ k.waiters
  numberIsLastIssued : ∀ g, k.grant = some g → g.number = k.lastIssued
  holderHere : ∀ g, k.grant = some g → here g.holder

section
variable {k k' : Lock} {here : Port → Prop} {p : Port}

/-- A lock without a grant is in order if nobody waits for it. -/
theorem Lock.inOrder_of_free (free : k.grant = none) (waiters : k.waiters = []) : k.InOrder here where
  freeHasNoWaiters _ := waiters
  noneTwice := waiters ▸ List.nodup_nil
  neverItsHolder _ e := by simp [free] at e
  numberIsLastIssued _ e := by simp [free] at e
  holderHere _ e := by simp [free] at e

/-- A fresh grant has the last issued number (R98). -/
theorem Lock.grantTo_inOrder (once : k.waiters.Nodup) (apart : p ∉ k.waiters) (present : here p) : (k.grantTo p).InOrder here where
  freeHasNoWaiters e := by cases e
  noneTwice := once
  neverItsHolder _ e := by
    cases e
    exact apart
  numberIsLastIssued _ e := by
    cases e
    rfl
  holderHere _ e := by
    cases e
    exact present

/-- A change of the lease, the settings or the revoked grant leaves a lock in order: holder, number and waiters are the same. -/
theorem Lock.InOrder.of_same (h : k.InOrder here) (waiters : k'.waiters = k.waiters) (issued : k'.lastIssued = k.lastIssued)
    (grant : k'.grant.map (fun g => (g.holder, g.number)) = k.grant.map fun g => (g.holder, g.number)) : k'.InOrder here := by
  have same : ∀ g', k'.grant = some g' → ∃ g, k.grant = some g ∧ g.holder = g'.holder ∧ g.number = g'.number := by
    intro g' e
    rw [e, Option.map_some, eq_comm, Option.map_eq_some_iff] at grant
    obtain ⟨g, e, pair⟩ := grant
    exact ⟨g, e, Prod.mk.inj pair⟩
  refine ⟨fun e => ?_, waiters ▸ h.noneTwice, fun g' e => ?_, fun g' e => ?_, fun g' e => ?_⟩
  · rw [e, Option.map_none, eq_comm, Option.map_eq_none_iff] at grant
    exact waiters.trans (h.freeHasNoWaiters grant)
  · obtain ⟨g, held, holder, -⟩ := same g' e
    rw [waiters, ← holder]
    exact h.neverItsHolder g held
  · obtain ⟨g, held, -, number⟩ := same g' e
    rw [issued, ← number]
    exact h.numberIsLastIssued g held
  · obtain ⟨g, held, holder, -⟩ := same g' e
    exact holder ▸ h.holderHere g held

theorem Lock.InOrder.renewed (h : k.InOrder here) : k.renewed.InOrder here := by
  refine h.of_same rfl rfl ?_
  cases e : k.grant <;> simp [Lock.renewed, e]

theorem Lock.InOrder.lowerLease (h : k.InOrder here) : k.lowerLease.InOrder here := by
  refine h.of_same rfl rfl ?_
  cases e : k.grant <;> simp [Lock.lowerLease, e]

theorem Lock.InOrder.tick (h : k.InOrder here) : k.tick.InOrder here := by
  refine h.of_same rfl rfl ?_
  cases e : k.grant <;> simp [Lock.tick, e]

/-- A port joins the list of a lock that another port holds (R99). -/
theorem Lock.InOrder.join {g : Grant} (h : k.InOrder here) (held : k.grant = some g) (other : g.holder ≠ p)
    (apart : p ∉ k.waiters) : ({ k with waiters := k.waiters ++ [p] } : Lock).InOrder here where
  freeHasNoWaiters e := absurd (held.symm.trans e) (by simp)
  noneTwice := List.nodup_append.2 ⟨h.noneTwice, List.nodup_singleton p, fun x hx y hy e => apart (by simp_all)⟩
  neverItsHolder g' e := by
    cases held.symm.trans e
    simp [h.neverItsHolder g held, other]
  numberIsLastIssued := h.numberIsLastIssued
  holderHere := h.holderHere

/-- A port leaves a waiter list (R107, R112). -/
theorem Lock.InOrder.leave (h : k.InOrder here) (p : Port) :
    ({ k with waiters := k.waiters.filter fun q => decide (q ≠ p) } : Lock).InOrder here where
  freeHasNoWaiters e := by
    have empty := h.freeHasNoWaiters e
    simp [empty]
  noneTwice := h.noneTwice.filter _
  neverItsHolder g e hq := h.neverItsHolder g e (List.mem_of_mem_filter hq)
  numberIsLastIssued := h.numberIsLastIssued
  holderHere := h.holderHere

end

/-! ### All locks and wait records (R97) -/

/-- What R96 and R97 say of lock records and wait records; `here` names the ports that may hold and wait. -/
structure State.LocksKept (s : State) (here : Port → Prop) : Prop where
  lock : ∀ l, (s.locks.get l).InOrder here
  waitRecord : ∀ l p, p ∈ (s.locks.get l).waiters ↔ s.waits.get p = some l
  waiterHere : ∀ p l, s.waits.get p = some l → here p

/-- The invariant of O55: the ports that hold and wait are ATTACHED (R112). -/
theorem State.locksInOrder_iff {s : State} : s.LocksInOrder ↔ s.LocksKept fun p => (s.ports.get p).state = .attached := by
  constructor
  · intro h
    exact
      { lock := fun l =>
          ⟨h.freeHasNoWaiters l, h.noneTwice l, h.neverItsHolder l, h.numberIsLastIssued l, h.holderAttached l⟩
        waitRecord := h.waitRecord
        waiterHere := h.waiterAttached }
  · intro h
    exact
      { freeHasNoWaiters := fun l => (h.lock l).freeHasNoWaiters
        noneTwice := fun l => (h.lock l).noneTwice
        neverItsHolder := fun l => (h.lock l).neverItsHolder
        numberIsLastIssued := fun l => (h.lock l).numberIsLastIssued
        waitRecord := h.waitRecord
        holderAttached := fun l => (h.lock l).holderHere
        waiterAttached := h.waiterHere }

section
variable {s t : State} {here : Port → Prop} {p : Port} {l : LockId}

/-- Only lock records and wait records bear on it. -/
theorem State.LocksKept.congr (h : s.LocksKept here) (locks : t.locks = s.locks := by simp)
    (waits : t.waits = s.waits := by simp) : t.LocksKept here :=
  ⟨locks ▸ h.lock, locks ▸ waits ▸ h.waitRecord, waits ▸ h.waiterHere⟩

theorem State.LocksKept.mono {here' : Port → Prop} (h : s.LocksKept here) (le : ∀ q, here q → here' q) : s.LocksKept here' where
  lock l :=
    { h.lock l with holderHere := fun g e => le _ ((h.lock l).holderHere g e) }
  waitRecord := h.waitRecord
  waiterHere q l e := le _ (h.waiterHere q l e)

/-- No lock is held and nobody waits. -/
theorem State.locksKept_of_free (free : ∀ l, (s.locks.get l).grant = none ∧ (s.locks.get l).waiters = [])
    (waits : ∀ p, s.waits.get p = none) : s.LocksKept here where
  lock l := Lock.inOrder_of_free (free l).1 (free l).2
  waitRecord l p := by simp [(free l).2, waits p]
  waiterHere p l e := by simp [waits p] at e

theorem State.deviceReset_locksKept (s : State) : s.deviceReset.LocksKept here :=
  State.locksKept_of_free (fun l => by simp [State.deviceReset, Lock.deviceReset]) fun p => PerPort.get_all ..

theorem State.powerOn_locksKept (s : State) : s.powerOn.LocksKept here :=
  State.locksKept_of_free (fun l => by simp [State.powerOn, State.reset, Lock.powerOn]) fun p => PerPort.get_all ..

/-- A port that waits nowhere stands in no list. -/
theorem State.LocksKept.not_mem_waiters (h : s.LocksKept here) (nowhere : s.waits.get p = none) (l : LockId) :
    p ∉ (s.locks.get l).waiters := by
  rw [h.waitRecord l p, nowhere]
  simp

/-- A changed lock record that is in order and has the same waiter list. -/
theorem State.LocksKept.updLock {f : Lock → Lock} (h : s.LocksKept here) (lock : (f (s.locks.get l)).InOrder here)
    (waiters : (f (s.locks.get l)).waiters = (s.locks.get l).waiters) : (s.updLock l f).LocksKept here where
  lock m := by
    rw [State.updLock_locks, Table.get_modify]
    split
    · exact lock
    · exact h.lock m
  waitRecord m q := by
    rw [State.updLock_locks, Table.get_modify]
    split
    · next e =>
      rw [waiters, e]
      exact h.waitRecord l q
    · exact h.waitRecord m q
  waiterHere := h.waiterHere

/-- A port joins or leaves the list of one lock, the only one that it may wait for before and after: its wait record and that lock's
list change together, and the list's other ports stay. -/
theorem State.LocksKept.moveWaiter {f : Lock → Lock} {x : Option LockId} (h : s.LocksKept here)
    (before : ∀ m, s.waits.get p = some m → m = l) (after : ∀ m, x = some m → m = l ∧ here p)
    (lock : (f (s.locks.get l)).InOrder here)
    (others : ∀ q, q ≠ p → (q ∈ (f (s.locks.get l)).waiters ↔ q ∈ (s.locks.get l).waiters))
    (own : p ∈ (f (s.locks.get l)).waiters ↔ x = some l) : ((s.updLock l f).setWait p x).LocksKept here where
  lock m := by
    rw [State.setWait_locks, State.updLock_locks, Table.get_modify]
    split
    · exact lock
    · exact h.lock m
  waitRecord m q := by
    rw [State.setWait_locks, State.updLock_locks, State.setWait_waits, State.updLock_waits, Table.get_modify, PerPort.get_set]
    split_ifs with hm hq hq
    · rw [hm, hq]
      exact own
    · rw [hm, others q hq]
      exact h.waitRecord l q
    · rw [hq, h.waitRecord m p]
      exact ⟨fun e => absurd (before m e) hm, fun e => absurd (after m e).1 hm⟩
    · exact h.waitRecord m q
  waiterHere q m e := by
    rw [State.setWait_waits, State.updLock_waits, PerPort.get_set] at e
    split at e
    · next hq => exact hq ▸ (after m e).2
    · exact h.waiterHere q m e

/-! ### Joining and leaving a list -/

theorem State.LocksKept.joinList {g : Grant} (h : s.LocksKept here) (held : (s.locks.get l).grant = some g)
    (other : g.holder ≠ p) (nowhere : s.waits.get p = none) (present : here p) : (s.joinList p l).LocksKept here := by
  refine h.moveWaiter (fun m e => ?_) (fun m e => ?_) ?_ (fun q hq => ?_) ?_
  · simp [nowhere] at e
  · cases e
    exact ⟨rfl, present⟩
  · exact (h.lock l).join held other (h.not_mem_waiters nowhere l)
  · simp [hq]
  · simp

theorem State.LocksKept.leaveList (h : s.LocksKept here) (waiting : s.waits.get p = some l) :
    (s.leaveList p l).LocksKept here := by
  refine h.moveWaiter (fun m e => ?_) (fun m e => by cases e) ((h.lock l).leave p) (fun q hq => ?_) ?_
  · exact (Option.some.inj (waiting.symm.trans e)).symm
  · simp [hq]
  · simp

/-! ### Handoff (R102) -/

/-- The first waiter is granted the lock and waits no more, or the lock is FREE. -/
theorem State.LocksKept.handoff (h : s.LocksKept here) (l : LockId) : (s.handoff l).LocksKept here := by
  unfold State.handoff
  split
  · next empty => exact h.updLock (Lock.inOrder_of_free rfl empty) rfl
  · next w ws list =>
    have waiting : s.waits.get w = some l := (h.waitRecord l w).1 (by simp [list])
    have once : (w :: ws).Nodup := list ▸ (h.lock l).noneTwice
    obtain ⟨apart, rest⟩ := List.nodup_cons.1 once
    have moved : ((s.updLock l fun k => { k with waiters := ws }.grantTo w).setWait w none).LocksKept here := by
      refine h.moveWaiter (fun m e => ?_) (fun m e => by cases e) (Lock.grantTo_inOrder rest apart (h.waiterHere w l waiting))
        (fun q hq => ?_) ?_
      · exact (Option.some.inj (waiting.symm.trans e)).symm
      · simp [Lock.grantTo, list, hq]
      · simp [Lock.grantTo, apart]
    exact moved.congr

/-- A handoff makes nobody wait. -/
theorem State.handoff_waits_none (nowhere : s.waits.get p = none) (l : LockId) : (s.handoff l).waits.get p = none := by
  unfold State.handoff
  split
  · exact nowhere
  · rw [State.raise_waits, State.setWait_waits, PerPort.get_set]
    split
    · rfl
    · exact nowhere

theorem State.holdsLock_eq_true : s.holdsLock p l = true ↔ ∃ g, (s.locks.get l).grant = some g ∧ g.holder = p := by
  unfold State.holdsLock
  cases (s.locks.get l).grant <;> simp

/-- A lock that is handed off passes to a port of its list. -/
theorem State.holder_mem_of_handoff (holds : (s.handoff l).holdsLock p l = true) : p ∈ (s.locks.get l).waiters := by
  obtain ⟨g, held, own⟩ := State.holdsLock_eq_true.1 holds
  rw [State.handoff_locks_same] at held
  split at held
  · cases held
  · next list =>
    cases held
    simp [list, ← own]

/-! ### The purge (R112, R132) -/

theorem State.LocksKept.handoffFrom (h : s.LocksKept here) (p : Port) (l : LockId) : (s.handoffFrom p l).LocksKept here := by
  unfold State.handoffFrom
  split
  · exact h.handoff l
  · exact h

theorem State.handoffFrom_waits_none (nowhere : s.waits.get p = none) (l : LockId) : (s.handoffFrom p l).waits.get p = none := by
  unfold State.handoffFrom
  split
  · exact State.handoff_waits_none nowhere l
  · exact nowhere

/-- A port that waits nowhere loses the lock handed off from it, and gains none. -/
theorem State.LocksKept.holdsLock_of_handoffFrom (h : s.LocksKept here) (nowhere : s.waits.get p = none) {m : LockId}
    (holds : (s.handoffFrom p l).holdsLock p m = true) : m ≠ l ∧ s.holdsLock p m = true := by
  unfold State.handoffFrom at holds
  split at holds
  · have apart : m ≠ l := by
      rintro rfl
      exact h.not_mem_waiters nowhere m (State.holder_mem_of_handoff holds)
    rw [State.holdsLock, State.handoff_locks_other s apart] at holds
    exact ⟨apart, holds⟩
  · next free => exact ⟨fun e => free (e ▸ holds), holds⟩

/-- After the handoffs of a row of locks the port holds none of them, and no lock that it did not hold before. -/
theorem State.LocksKept.handoffs (h : s.LocksKept here) (nowhere : s.waits.get p = none) (ls : List LockId) :
    let t := ls.foldl (fun u l => u.handoffFrom p l) s
    t.LocksKept here ∧ t.waits.get p = none ∧ ∀ m, t.holdsLock p m = true → m ∉ ls ∧ s.holdsLock p m = true := by
  induction ls generalizing s with
  | nil => exact ⟨h, nowhere, fun m e => ⟨List.not_mem_nil, e⟩⟩
  | cons l ls ih =>
    obtain ⟨records, waits, holds⟩ := ih (h.handoffFrom p l) (State.handoffFrom_waits_none nowhere l)
    refine ⟨records, waits, fun m e => ?_⟩
    obtain ⟨later, first⟩ := holds m e
    obtain ⟨apart, before⟩ := h.holdsLock_of_handoffFrom nowhere first
    exact ⟨by simp [apart, later], before⟩

/-- A port that neither waits nor holds is not among those that may. -/
theorem State.LocksKept.without (h : s.LocksKept here) (nowhere : s.waits.get p = none) (holds : ∀ l, s.holdsLock p l = false) :
    s.LocksKept fun q => here q ∧ q ≠ p where
  lock l :=
    { h.lock l with
      holderHere := fun g e => ⟨(h.lock l).holderHere g e, fun own =>
        Bool.eq_false_iff.1 (holds l) (State.holdsLock_eq_true.2 ⟨g, e, own⟩)⟩ }
  waitRecord := h.waitRecord
  waiterHere q l e := ⟨h.waiterHere q l e, fun own => by simp [← own, e] at nowhere⟩

/-- Step 6 of the purge leaves the port no lock and no place (R112). -/
theorem State.LocksKept.purgeLocks (h : s.LocksKept here) (p : Port) :
    (s.purgeLocks p).LocksKept fun q => here q ∧ q ≠ p := by
  have emptied : ∀ t : State, t.LocksKept here → t.waits.get p = none →
      ((indices 16).foldl (fun u l => u.handoffFrom p l) t).LocksKept fun q => here q ∧ q ≠ p := by
    intro t ht nowhere
    obtain ⟨records, waits, holds⟩ := ht.handoffs nowhere (indices 16)
    exact records.without waits fun l => Bool.eq_false_iff.2 fun e => (holds l e).1 (mem_indices 16 l)
  unfold State.purgeLocks
  dsimp only
  split
  · next l waiting => exact emptied _ (h.leaveList waiting) (PerPort.get_set_same ..)
  · next nowhere => exact emptied s h nowhere

/-- The purge's other steps touch no lock record and no wait record. -/
theorem State.LocksKept.purge (h : s.LocksKept here) (p : Port) : (s.purge p).LocksKept fun q => here q ∧ q ≠ p := by
  have before : (((((s.updWindow p Window.discard).purgeReservation p).purgeQueue p).clearNews p).orphanPublishes p).LocksKept
      here := h.congr
  exact (before.purgeLocks p).congr (by simp [State.purge]) (by simp [State.purge])

/-! ### The lock table's tick (R103, R104) -/

theorem State.LocksKept.expireLease (h : s.LocksKept here) (l : LockId) (g : Grant) : (s.expireLease l g).LocksKept here := by
  have revoked : (s.updLock l fun k => { k with revoked := some { number := g.number, port := g.holder } }).LocksKept here :=
    h.updLock ((h.lock l).of_same rfl rfl rfl) rfl
  exact (revoked.handoff l).congr rfl rfl

theorem State.LocksKept.takeLease (h : s.LocksKept here) (l : LockId) : (s.takeLease l).LocksKept here := by
  unfold State.takeLease
  split
  · exact h
  next g _ =>
  split
  · exact h
  split_ifs
  · exact h.updLock (h.lock l).lowerLease rfl
  · exact h.expireLease l g

theorem State.LocksKept.takeLeases (h : s.LocksKept here) : s.takeLeases.LocksKept here := by
  unfold State.takeLeases
  exact List.foldlRecOn (motive := fun u : State => u.LocksKept here) _ _ (h.congr rfl rfl) fun _ hu l _ => hu.takeLease l

theorem State.deliverTick_locks (s : State) :
    s.deliverTick.locks = if s.dueNow.locks = [] then s.locks.map Lock.tick else s.locks := rfl

theorem State.LocksKept.deliverTick (h : s.LocksKept here) : s.deliverTick.LocksKept here := by
  have ticked : ({ s with locks := s.locks.map Lock.tick } : State).LocksKept here :=
    { lock := fun l => by
        rw [Table.get_map]
        exact (h.lock l).tick
      waitRecord := fun l q => by
        rw [Table.get_map]
        exact h.waitRecord l q
      waiterHere := h.waiterHere }
  by_cases none : s.dueNow.locks = []
  · exact ticked.congr (by rw [State.deliverTick_locks, if_pos none]) rfl
  · exact h.congr (by rw [State.deliverTick_locks, if_neg none]) rfl

end

end Sys2Proof.Machine
end

section
/-! Every row keeps the locks in order: the lock table's own rows by their rules, a port that leaves by its purge, and every other row
because it touches no lock record and no wait record, and takes no port away. -/

namespace Sys2Proof.Machine

/-! ### Rows that leave lock records, wait records and ATTACHED ports alone -/

/-- Between `s` and `t` no lock record and no wait record changes, and every ATTACHED port stays. -/
structure State.LocksAside (s t : State) : Prop where
  locks : t.locks = s.locks
  waits : t.waits = s.waits
  stays : ∀ p, (s.ports.get p).state = .attached → (t.ports.get p).state = .attached

section
variable {s t u : State} {p q : Port}

/-- Lock records in order for the ATTACHED ports of a state where no such port is missing. -/
theorem State.LocksInOrder.of_kept (h : t.LocksKept fun p => (s.ports.get p).state = .attached)
    (stays : ∀ p, (s.ports.get p).state = .attached → (t.ports.get p).state = .attached := by simp) : t.LocksInOrder :=
  State.locksInOrder_iff.2 (h.mono stays)

theorem State.LocksInOrder.aside (h : s.LocksInOrder) (k : s.LocksAside t) : t.LocksInOrder :=
  .of_kept ((State.locksInOrder_iff.1 h).congr k.locks k.waits) k.stays

theorem State.LocksAside.refl (s : State) : s.LocksAside s := ⟨rfl, rfl, fun _ => id⟩

theorem State.LocksAside.trans (h : s.LocksAside t) (k : t.LocksAside u) : s.LocksAside u :=
  ⟨k.locks.trans h.locks, k.waits.trans h.waits, fun p e => k.stays p (h.stays p e)⟩

/-- An operation that touches no port record. -/
theorem State.LocksAside.of_fields (locks : t.locks = s.locks := by simp) (waits : t.waits = s.waits := by simp)
    (ports : t.ports = s.ports := by simp) : s.LocksAside t := ⟨locks, waits, fun _ => by rw [ports]; exact id⟩

/-- What gives an absent port nothing takes no port away. -/
theorem State.NoGain.attached (k : s.NoGain p t) (attached : (s.ports.get p).state = .attached) :
    (t.ports.get p).state = .attached := by_contra fun away => (k.absent away).1 attached

theorem State.LocksAside.of_noGain (k : ∀ p, s.NoGain p t) (locks : t.locks = s.locks := by simp)
    (waits : t.waits = s.waits := by simp) : s.LocksAside t := ⟨locks, waits, fun p => (k p).attached⟩

/-! ### A port leaves (R127, R131, R134) -/

/-- A purge of a port leaves the others ATTACHED. -/
theorem State.purge_attached (s : State) (h : q ≠ p) (attached : (s.ports.get q).state = .attached) :
    ((s.purge p).ports.get q).state = .attached := (s.purge_noGain p h).attached attached

/-- After a purge the locks are in order whatever has become of its port: only the others have to be ATTACHED. -/
theorem State.LocksInOrder.of_purge {here : Port → Prop} (h : s.LocksKept here)
    (others : ∀ q, here q ∧ q ≠ p → (t.ports.get q).state = .attached) (locks : t.locks = (s.purge p).locks := by simp)
    (waits : t.waits = (s.purge p).waits := by simp) : t.LocksInOrder :=
  State.locksInOrder_iff.2 (((h.purge p).congr locks waits).mono others)

theorem State.updPort_other (s : State) (h : q ≠ p) (f : PortRecord → PortRecord) : (s.updPort p f).ports.get q = s.ports.get q :=
  PerPort.get_set_other _ _ h

/-- A port whose own record has changed is purged. -/
theorem State.LocksInOrder.purge_changed (h : s.LocksInOrder) (others : ∀ q, q ≠ p → t.ports.get q = s.ports.get q)
    (locks : t.locks = s.locks := by simp) (waits : t.waits = s.waits := by simp) : (t.purge p).LocksInOrder := by
  refine .of_purge (p := p) ((State.locksInOrder_iff.1 h).congr locks waits) fun q ⟨attached, other⟩ => ?_
  exact t.purge_attached other (by rwa [others q other])

theorem State.LocksInOrder.isolate (h : s.LocksInOrder) (p : Port) : (s.isolate p).LocksInOrder := by
  unfold State.isolate
  exact h.purge_changed fun q other => by rw [State.updWindow_ports, State.updPort_other _ other]

/-- A port is purged and leaves. -/
theorem State.LocksInOrder.purge_leave (h : s.LocksInOrder) (p : Port) (x : PortState) :
    ((s.purge p).updPort p fun r => { r with state := x }).LocksInOrder := by
  refine .of_purge (p := p) (State.locksInOrder_iff.1 h) fun q ⟨attached, other⟩ => ?_
  rw [State.updPort_other _ other]
  exact s.purge_attached other attached

theorem State.raise_locksAside (s : State) (p : Port) (e : Event) : s.LocksAside (s.raise p e) := .of_fields

theorem State.LocksInOrder.charge (h : s.LocksInOrder) (p : Port) : (s.charge p).LocksInOrder := by
  have scored : ∀ n, s.LocksAside (s.updPort p fun r => { r with score := n }) := fun n =>
    .of_noGain fun q => s.updPort_noGain p q (fun _ => rfl) (fun _ => id) fun _ => rfl
  unfold State.charge
  dsimp only
  split_ifs
  · exact h.isolate p
  · exact h.aside ((scored _).trans (State.raise_locksAside _ p _))
  · exact h.aside (scored _)

theorem State.lowerScore_locksAside (s : State) (p : Port) : s.LocksAside (s.lowerScore p) :=
  .of_noGain fun q => s.lowerScore_noGain p q

theorem State.LocksInOrder.score (h : s.LocksInOrder) (p : Port) (k : ReportKind) : (s.score p k).LocksInOrder := by
  unfold State.score
  split
  · cases k with
    | success => exact h.aside (s.lowerScore_locksAside p)
    | refusal => exact h
    | fault => exact h.charge p
    | leaseExpiry => exact h.charge p
  · exact h

theorem State.LocksInOrder.detached (h : s.LocksInOrder) (p : Port) : (s.detached p).LocksInOrder :=
  (h.aside (s.lowerScore_locksAside p)).purge_leave p .offline

theorem State.LocksInOrder.portReset (h : s.LocksInOrder) (p : Port) : (s.portReset p).LocksInOrder := by
  have byState : (s.portResetByState p).LocksInOrder := by
    unfold State.portResetByState
    split
    · exact h.purge_leave p .offline
    · exact h.aside .of_fields
  unfold State.portReset
  exact byState.aside .of_fields

/-! ### Resets and ticks (R113, R114, R103) -/

theorem State.deviceReset_locksInOrder (s : State) : s.deviceReset.LocksInOrder :=
  State.locksInOrder_iff.2 s.deviceReset_locksKept

theorem State.powerOn_locksInOrder (s : State) : s.powerOn.LocksInOrder := State.locksInOrder_iff.2 s.powerOn_locksKept

theorem State.LocksInOrder.takeLeases (h : s.LocksInOrder) : s.takeLeases.LocksInOrder :=
  .of_kept (State.locksInOrder_iff.1 h).takeLeases

/-- Device control's share of a tick moves the authorization counter or resets the device (R157). -/
theorem State.LocksInOrder.takeAuthorization (h : s.LocksInOrder) : s.takeAuthorization.LocksInOrder := by
  unfold State.takeAuthorization
  dsimp only
  split_ifs
  · exact State.deviceReset_locksInOrder _
  · exact h.aside (.of_fields rfl rfl rfl)
  · exact h.aside (.of_fields rfl rfl rfl)

theorem State.LocksInOrder.takeLifetime (h : s.LocksInOrder) (i : SlotId) : (s.takeLifetime i).LocksInOrder :=
  h.aside (.of_noGain fun q => s.takeLifetime_noGain q i)

theorem State.LocksInOrder.takeCoolDowns (h : s.LocksInOrder) : s.takeCoolDowns.LocksInOrder :=
  h.aside (.of_noGain fun q => s.takeCoolDowns_noGain q)

theorem State.LocksInOrder.baseTick (h : s.LocksInOrder) : s.baseTick.LocksInOrder :=
  State.baseTick_keeps (P := State.LocksInOrder) (fun _ i k => k.takeLifetime i) (fun _ k => k.takeLeases)
    (fun _ k => k.takeCoolDowns) (fun _ k => k.takeAuthorization) (fun u _ => u.deviceReset_locksInOrder)
    (fun u k => .of_kept (State.locksInOrder_iff.1 k).deliverTick fun p => (u.deliverTick_noGain p).attached) h

end

/-! ### Commands -/

section
variable {s t : State} {p : Port} {a : Words6} {c : Command}

/-- ATTACH adds a port (R126). -/
theorem State.attach_locksAside (s : State) (p : Port) (a : Words6) :
    s.LocksAside (s.updPort p fun _ => (s.ports.get p).attach a.w0 a.w1.toNat) :=
  .of_noGain fun q => State.attach_noGain p q a

/-- What a command makes of the state keeps the locks in order. -/
theorem State.Takes.locksInOrder (k : s.Takes p a c t) (h : s.LocksInOrder) : t.LocksInOrder := by
  have kept := State.locksInOrder_iff.1 h
  cases k
  case unchanged => exact h
  case attach => exact h.aside ((s.attach_locksAside p a).trans .of_fields)
  case detach => exact h.detached p
  case voteReset att => exact h.aside (.of_noGain fun q => State.castVote_noGain p q att)
  case withdrawVote => exact h.aside (.of_noGain fun q => s.withdrawVote_noGain p q)
  case start | setGeometry | setTimebase | setQuorum | setWatermark => exact h.aside (.of_fields rfl rfl rfl)
  case reserve att _ _ _ _ =>
    exact h.aside (.of_noGain fun q => (State.reserveSlot_noGain p q att _ _ _).trans (State.warnPool_noGain q _ _))
  case abandon => exact h.aside (.of_noGain fun q => (s.release_noGain q _).trans (State.dropReservation_noGain _ p q))
  case publish att _ _ _ passed =>
    exact h.aside (.of_noGain fun q => State.acceptPublish_noGain p q att (State.credits_of_publishCheck passed) _ _ _ _ a)
  case collect att oldest => exact h.aside (.of_noGain fun q => State.collect_noGain p q att oldest)
  case discard => exact h.aside (.of_noGain fun q => (s.pullOldest_noGain p q _).trans (State.release_noGain _ q _))
  case done => exact h.aside (.of_noGain fun q => s.emptyHold_noGain p q)
  case subscribeAgain ch r _ _ _ _ _ _ openFor present =>
    refine h.aside (.of_noGain fun q => .trans ?_ (State.trim_noGain _ r q ch _))
    exact State.resubscribe_noGain q openFor present rfl
  case unsubscribe ch r _ _ _ _ _ =>
    exact (h.aside (.of_noGain fun q => s.dropEntries_noGain r q fun e => decide (e.channel = ch))).aside .of_fields
  case closeNow ch _ _ _ => exact h.aside (.of_noGain fun q => s.closeChannel_noGain q ch)
  case take | readState | defineChannel | setChannel | subscribeNew | suspend | resume | closeDeferred | freezeChannel |
    clearCounts => exact h.aside .of_fields
  case acquireFree l att _ free =>
    have empty := (kept.lock l).freeHasNoWaiters free
    exact .of_kept (kept.updLock (Lock.grantTo_inOrder (kept.lock l).noneTwice (by simp [empty]) att) rfl)
  case acquireQueued l g att _ held other nowhere => exact .of_kept (kept.joinList held other nowhere att)
  case release l _ _ _ _ => exact .of_kept (kept.handoff l)
  case renew l _ _ _ _ => exact .of_kept (kept.updLock (kept.lock l).renewed rfl)
  case cancelWait l _ waiting => exact .of_kept (kept.leaveList ((kept.waitRecord l p).1 waiting))
  case setLease l => exact .of_kept (kept.updLock ((kept.lock l).of_same rfl rfl rfl) rfl)
  case freezeLock l => exact .of_kept (kept.updLock ((kept.lock l).of_same rfl rfl rfl) rfl)

end

/-! ### Events, accesses, and every row -/

section
variable {s t : State}

/-- What an event or an access makes of the state keeps the locks in order. -/
theorem State.Happens.locksInOrder (k : s.Happens t) (h : s.LocksInOrder) : t.LocksInOrder := by
  cases k
  case unchanged => exact h
  case powerOn => exact s.powerOn_locksInOrder
  case portReset p => exact h.portReset p
  case ticked => exact h.baseTick
  case lifetimeEnds i _ => exact h.takeLifetime i
  case leasesTick => exact h.takeLeases
  case coolDownsTick => exact h.takeCoolDowns
  case authorizationTicks => exact h.takeAuthorization
  case scored p kind _ =>
    have taken : ({ s with reports := s.reports.erase { port := p, kind := kind } } : State).LocksInOrder :=
      h.aside (.of_fields rfl rfl rfl)
    exact taken.score p kind
  case fanOutStarts r rest m idle head _ => exact h.aside (.of_noGain fun q => State.startFanOut_noGain q idle head m)
  case visited f p m spreading _ _ => exact h.aside (.of_noGain fun q => State.visit_noGain q p m spreading)
  case fanOutEnds f m spreading _ _ => exact h.aside (.of_noGain fun q => State.endFanOut_noGain q m spreading)
  case pornReleased | counted | filled | locationFault | plainWritten => exact h.aside (.of_fields rfl rfl rfl)
  case commandIssued | codeRejected | fillPointed | driven | dataRead | readPointed | eventsWritten | ticksRead =>
    exact h.aside .of_fields

end

/-- Settles O55: `step_keeps`; a row is one of the lock table's own, or purges a port, or leaves the locks aside. -/
theorem everyStepKeepsTheLocksInOrder : Obligations.EveryStepKeepsTheLocksInOrder := by
  intro s t hs h
  refine step_keeps (P := State.LocksInOrder) (fun _ _ k => k.aside (.of_fields rfl rfl rfl)) (fun u v hu k => ?_) hs h
  exact k.keeps (fun _ _ _ _ x => x.locksInOrder hu) (fun _ _ _ _ _ x => x.aside (.of_fields rfl rfl rfl))
    (fun _ _ _ _ _ x => x.aside (.of_fields rfl rfl rfl)) (fun u _ => u.deviceReset_locksInOrder)
    (fun _ x => x.locksInOrder hu)

end Sys2Proof.Machine
end

section
/-! The lock table's commands and its handoff, each against its statement. -/

namespace Sys2Proof.Machine

/-! ### Handoff (R102) -/

section
variable {s : State} {l : LockId}

theorem State.handoff_of_no_waiter (empty : (s.locks.get l).waiters = []) :
    s.handoff l = s.updLock l fun k => { k with grant := none } := by rw [State.handoff, empty]

theorem State.handoff_of_waiter {w : Port} {ws : List Port} (list : (s.locks.get l).waiters = w :: ws) :
    s.handoff l = ((s.updLock l fun k => { k with waiters := ws }.grantTo w).setWait w none).raise w .grant := by
  rw [State.handoff, list]

end

/-- Settles O32: the two branches of `State.handoff`, with `Lock.grantTo` as a record update. -/
theorem handoffPassesTheLockOn : Obligations.HandoffPassesTheLockOn :=
  fun _ _ => ⟨State.handoff_of_no_waiter, fun _ _ => State.handoff_of_waiter⟩

/-! ### Checks that pass (R99, R101, R107, R27) -/

section
variable {s : State} {p : Port} {a : Words6} {l : LockId}

theorem State.absence_of_portChecks (h : judge (s.portChecks p) = none) : s.absence p = none :=
  State.absence_of_attached (State.attached_of_portChecks h)

theorem State.grantAt_val (s : State) (l : LockId) : s.grantAt l.val = (s.locks.get l).grant := by
  simp [State.grantAt, State.lockAt_val]

theorem State.holderAt_val (s : State) (l : LockId) : s.holderAt l.val = (s.locks.get l).grant.map fun g => g.holder := by
  rw [State.holderAt, State.grantAt_val]

theorem State.numberAt_val (s : State) (l : LockId) : s.numberAt l.val = (s.locks.get l).grant.map fun g => g.number := by
  rw [State.numberAt, State.grantAt_val]

theorem leaseWord_eq (x : Option Nat) : leaseWord x = BitVec.ofNat 16 (x.getD 0) := by cases x <;> rfl

/-- R99 up to its fourth order: the port is ATTACHED and not RESTRICTED, and ARG0 and ARG1 are in range. -/
theorem State.acquire_admitted (h : judge (s.lockChecks .acquire p a) = none) :
    s.absence p = none ∧ s.restricted p = false ∧ ¬1 < a.w1.toNat := by
  obtain ⟨port, h⟩ := judge_append_none h
  obtain ⟨unrestricted, h⟩ := judge_cons_none h
  obtain ⟨range, -⟩ := judge_cons_none h
  have att := State.attached_of_portChecks port
  refine ⟨State.absence_of_attached att, ?_, fun e => of_decide_eq_false range (.inr e)⟩
  rw [State.restricted_of_attached att]
  exact unrestricted

theorem State.acquireAnswer_of_free (h : judge (s.lockChecks .acquire p a) = none) (number : a.w0.toNat = l.val)
    (free : (s.locks.get l).grant = none) :
    s.acquireAnswer p a = (s.updLock l fun k => k.grantTo p).answer .ok
      { w0 := ((s.locks.get l).lastIssued + 1).extractLsb' 0 16, w1 := ((s.locks.get l).lastIssued + 1).extractLsb' 16 16
        w2 := BitVec.ofNat 16 ((countdown (s.locks.get l).leaseSetting).getD 0) } := by
  obtain ⟨port, unrestricted, wait⟩ := State.acquire_admitted h
  rw [← leaseWord_eq]
  simp only [State.acquireAnswer, port, unrestricted, lock?_of_val number, if_neg wait, free, Bool.false_eq_true, if_false]
  rfl

theorem State.acquireAnswer_of_held {g : Grant} (h : judge (s.lockChecks .acquire p a) = none) (number : a.w0.toNat = l.val)
    (held : (s.locks.get l).grant = some g) :
    s.acquireAnswer p a =
      (s.joinList p l).answer .queued { w0 := BitVec.ofNat 16 ((s.locks.get l).waiters.length + 1) } := by
  obtain ⟨port, unrestricted, wait⟩ := State.acquire_admitted h
  obtain ⟨-, h⟩ := judge_append_none h
  obtain ⟨-, h⟩ := judge_cons_none h
  obtain ⟨-, h⟩ := judge_cons_none h
  obtain ⟨other, h⟩ := judge_cons_none h
  obtain ⟨notWaiting, h⟩ := judge_cons_none h
  obtain ⟨queues, -⟩ := judge_cons_none h
  rw [number, State.holderAt_val, held] at other
  rw [number, State.grantAt_val, held] at notWaiting queues
  have apart : g.holder ≠ p := by simpa using other
  have nowhere : (s.waits.get p).isSome = false := by simpa using notWaiting
  have waits : a.w1 ≠ 0 := by simpa using queues
  simp only [State.acquireAnswer, port, unrestricted, lock?_of_val number, if_neg wait, held, if_neg apart, nowhere,
    if_neg waits, Bool.false_eq_true, if_false]
  rfl

theorem State.cancelWaitAnswer_of_none (h : judge (s.lockChecks .cancelWait p a) = none) (number : a.w0.toNat = l.val) :
    s.cancelWaitAnswer p a = (s.leaveList p l).answer .ok := by
  obtain ⟨port, h⟩ := judge_append_none h
  obtain ⟨-, h⟩ := judge_cons_none h
  obtain ⟨-, h⟩ := judge_cons_none h
  obtain ⟨waiting, -⟩ := judge_cons_none h
  rw [number, State.lockAt_val] at waiting
  have listed : p ∈ (s.locks.get l).waiters := by simpa using waiting
  simp only [State.cancelWaitAnswer, State.absence_of_portChecks port, lock?_of_val number, if_pos listed]

/-- Orders 2 to 4 of R101 do not hold: order 1 does. -/
theorem State.grantJudge_of_none (h : judge (s.grantChecks p a) = none) (number : a.w0.toNat = l.val) :
    s.grantJudge p a = .ok l := by
  obtain ⟨port, h⟩ := judge_append_none h
  obtain ⟨-, h⟩ := judge_cons_none h
  obtain ⟨-, h⟩ := judge_cons_none h
  obtain ⟨holder, h⟩ := judge_cons_none h
  obtain ⟨current, -⟩ := judge_cons_none h
  rw [number, State.holderAt_val] at holder
  rw [number, State.numberAt_val] at current
  have own : (s.locks.get l).grant.map (fun g => g.holder) = some p := by simpa using holder
  have presented : (s.locks.get l).grant.map (fun g => g.number) = some (longOf a.w1 a.w2) := by simpa [longOf] using current
  obtain ⟨g, held, rfl⟩ := Option.map_eq_some_iff.1 own
  have checked : (s.locks.get l).grantCheck g.holder (longOf a.w1 a.w2) = none := by
    simp only [held, Option.map_some, Option.some.injEq] at presented
    simp [Lock.grantCheck, held, presented]
  simp only [State.grantJudge, State.absence_of_portChecks port, lock?_of_val number, checked]

theorem State.releaseAnswer_of_none (h : judge (s.lockChecks .release p a) = none) (number : a.w0.toNat = l.val) :
    s.releaseAnswer p a = (s.handoff l).answer .ok
      (match (s.locks.get l).waiters with
        | [] => {}
        | w :: _ => { w0 := 1, w1 := BitVec.ofNat 16 w.index }) := by
  simp only [State.releaseAnswer, State.grantJudge_of_none h number]
  cases (s.locks.get l).waiters <;> rfl

theorem State.renewAnswer_of_none (h : judge (s.lockChecks .renew p a) = none) (number : a.w0.toNat = l.val) :
    s.renewAnswer p a = (s.updLock l Lock.renewed).answer .ok
      { w0 := BitVec.ofNat 16 ((countdown (s.locks.get l).leaseSetting).getD 0) } := by
  simp only [State.renewAnswer, State.grantJudge_of_none h number, leaseWord_eq]

/-- A lock held under `g` keeps its grant when it is renewed, but for the lease (R105). -/
theorem State.updLock_renewed {g : Grant} (held : (s.locks.get l).grant = some g) :
    s.updLock l Lock.renewed =
      { s with
        locks := s.locks.set l
          { s.locks.get l with grant := some { g with lease := countdown (s.locks.get l).leaseSetting } } } := by
  rw [State.updLock, Table.modify, Lock.renewed, held]
  rfl

/-- The lock in ARG0 is not frozen (R109, R110). -/
theorem State.lockConfigJudge_of_none
    (h : judge (s.authorityChecks p a ++
      [on (15 < a.w0.toNat) .badArgument, on ((s.lockAt a.w0.toNat).any fun k => k.frozen) .frozen]) = none)
    (number : a.w0.toNat = l.val) : s.lockConfigJudge p a = .ok l := by
  obtain ⟨authority, h⟩ := State.configCheck_of_none h
  obtain ⟨-, h⟩ := judge_cons_none h
  obtain ⟨frozen, -⟩ := judge_cons_none h
  rw [number, State.lockAt_val, Option.any_some] at frozen
  simp only [State.lockConfigJudge, authority, lock?_of_val number, frozen, Bool.false_eq_true, if_false]

theorem State.setLeaseAnswer_of_none (h : judge (s.configurationChecks .setLease p a) = none) (number : a.w0.toNat = l.val) :
    s.setLeaseAnswer p a = (s.updLock l fun k => { k with leaseSetting := a.w1.toNat }).answer .ok { w0 := a.w1 } := by
  simp only [State.setLeaseAnswer, State.lockConfigJudge_of_none h number]

theorem State.freezeLockAnswer_of_none (h : judge (s.configurationChecks .freezeLock p a) = none)
    (number : a.w0.toNat = l.val) : s.freezeLockAnswer p a = (s.updLock l fun k => { k with frozen := true }).answer .ok := by
  simp only [State.freezeLockAnswer, State.lockConfigJudge_of_none h number]

end

/-! ### The statements -/

/-- Settles O33: no check refuses; the answer grants the lock, appends the port, or removes it. -/
theorem locksAreAcquiredQueuedForAndGivenUp : Obligations.LocksAreAcquiredQueuedForAndGivenUp := by
  intro s p a l number
  refine ⟨fun hi hj free => ?_, fun g hi hj held => ?_, fun hi hj => ?_⟩
  · exact exec_of_answer (c := .acquire) hi (State.acquireAnswer_of_free hj number free)
  · exact exec_of_answer (c := .acquire) hi (State.acquireAnswer_of_held hj number held)
  · exact exec_of_answer (c := .cancelWait) hi (State.cancelWaitAnswer_of_none hj number)

/-- Settles O34: no check refuses; RELEASE answers the handoff of O32, the others change the lock's record. -/
theorem heldLocksAndLockSettingsChange : Obligations.HeldLocksAndLockSettingsChange := by
  intro s p a l number
  refine ⟨fun hi hj => ?_, fun g hi hj held => ?_, fun hi hj => ?_, fun hi hj => ?_⟩
  · exact exec_of_answer (c := .release) hi (State.releaseAnswer_of_none hj number)
  · have answer := State.renewAnswer_of_none hj number
    rw [State.updLock_renewed held] at answer
    exact exec_of_answer (c := .renew) hi answer
  · exact exec_of_answer (c := .setLease) hi (State.setLeaseAnswer_of_none hj number)
  · exact exec_of_answer (c := .freezeLock) hi (State.freezeLockAnswer_of_none hj number)

end Sys2Proof.Machine
end

section
/-! The lock table's tick (R103, R104), lock by lock and for all sixteen at once, against its statement. -/

namespace Sys2Proof.Machine

/-! ### What one lock's record makes of the tick -/

/-- The tick ends the lock's lease (R103). -/
def Lock.leaseEnds (k : Lock) : Bool := k.grant.any fun g => g.lease.any fun n => decide (n ≤ 1)

/-- The tick ends the lock's lease and the lock passes to port `p` (R102, R104). -/
def Lock.passesTo (k : Lock) (p : Port) : Bool := k.leaseEnds && decide (k.waiters.head? = some p)

/-- The tick ends the lock's lease, which port `p` held (R104). -/
def Lock.isLostBy (k : Lock) (p : Port) : Bool := k.leaseEnds && k.grant.any fun g => decide (g.holder = p)

/-- The report that the tick sends for a lock, if its lease ends and its holder is ATTACHED (R104; log 26). -/
def State.leaseReport (s : State) (k : Lock) : Option Report :=
  k.grant.bind fun g => if k.leaseEnds && s.attached g.holder then some { port := g.holder, kind := .leaseExpiry } else none

/-- An event unit at which GRANT, or LEASE_LOST, or both are raised. -/
def EventUnit.told (u : EventUnit) (granted lost : Bool) : EventUnit :=
  { u with pending := u.pending ||| (if granted then 8#12 else 0#12) ||| if lost then 4#12 else 0#12 }

@[simp] theorem EventUnit.told_false (u : EventUnit) : u.told false false = u := by simp [EventUnit.told]

theorem EventUnit.raise_grant (u : EventUnit) : u.raise .grant = u.told true false := by
  simp [EventUnit.told, EventUnit.raise, Event.number, BitVec.twoPow]

theorem EventUnit.raise_leaseLost (u : EventUnit) : u.raise .leaseLost = u.told false true := by
  simp [EventUnit.told, EventUnit.raise, Event.number, BitVec.twoPow]

/-- Raising twice is raising what either raises. -/
theorem EventUnit.told_told (u : EventUnit) (granted lost granted' lost' : Bool) :
    (u.told granted lost).told granted' lost' = u.told (granted || granted') (lost || lost') := by
  have join : ∀ (x : BitVec 12) (a b : Bool),
      (if a then x else 0) ||| (if b then x else 0) = if a || b then x else 0 := by
    intro x a b
    cases a <;> cases b <;> simp
  have order : ∀ w x y x' y' : BitVec 12, w ||| x ||| y ||| x' ||| y' = w ||| (x ||| x') ||| (y ||| y') := by
    intros
    ac_rfl
  simp only [EventUnit.told]
  rw [order]
  exact congrArg (fun x => { u with pending := x }) (congrArg₂ _ (congrArg _ (join 8 ..)) (join 4 ..))

/-! ### One lock's tick -/

section
variable {s : State} {l : LockId} {g : Grant} {n : Nat}

theorem State.takeLease_of_free (free : (s.locks.get l).grant = none) : s.takeLease l = s := by rw [State.takeLease, free]

theorem State.takeLease_of_unleased (held : (s.locks.get l).grant = some g) (unleased : g.lease = none) :
    s.takeLease l = s := by
  simp only [State.takeLease, held, unleased]

theorem State.takeLease_of_running (held : (s.locks.get l).grant = some g) (lease : g.lease = some n) (runs : 1 < n) :
    s.takeLease l = s.updLock l Lock.lowerLease := by
  simp only [State.takeLease, held, lease, if_pos runs]

theorem State.takeLease_of_ending (held : (s.locks.get l).grant = some g) (lease : g.lease = some n) (ends : n ≤ 1) :
    s.takeLease l = s.expireLease l g := by
  simp only [State.takeLease, held, lease, if_neg (Nat.not_lt.2 ends)]

theorem State.attached_congr {s t : State} (ports : t.ports = s.ports) (p : Port) : t.attached p = s.attached p := by
  rw [State.attached, State.attached, ports]

/-- A tick that ends no lease of the lock touches its record alone. -/
theorem State.takeLease_of_not_ends (runs : (s.locks.get l).leaseEnds = false) :
    s.takeLease l = s ∨ s.takeLease l = s.updLock l Lock.lowerLease := by
  cases held : (s.locks.get l).grant with
  | none => exact .inl (State.takeLease_of_free held)
  | some g =>
    cases lease : g.lease with
    | none => exact .inl (State.takeLease_of_unleased held lease)
    | some n =>
      have above : 1 < n := by simpa [Lock.leaseEnds, held, lease] using runs
      exact .inr (State.takeLease_of_running held lease above)

theorem State.takeLease_of_ends (ends : (s.locks.get l).leaseEnds = true) :
    ∃ g, (s.locks.get l).grant = some g ∧ s.takeLease l = s.expireLease l g := by
  obtain ⟨g, held, ends⟩ := (Option.any_eq_true _ _).1 ends
  obtain ⟨n, lease, ends⟩ := (Option.any_eq_true _ _).1 ends
  exact ⟨g, held, State.takeLease_of_ending held lease (of_decide_eq_true ends)⟩

/-- The first waiter's wait record becomes absent (R102). -/
theorem State.handoff_waits_get (s : State) (l : LockId) (p : Port) :
    (s.handoff l).waits.get p = if (s.locks.get l).waiters.head? = some p then none else s.waits.get p := by
  cases list : (s.locks.get l).waiters with
  | nil => simp [State.handoff_of_no_waiter list]
  | cons w ws => simp [State.handoff_of_waiter list, PerPort.get_set, eq_comm]

/-- GRANT is raised at the first waiter (R102). -/
theorem State.handoff_events_get (s : State) (l : LockId) (p : Port) :
    (s.handoff l).events.get p = (s.events.get p).told (decide ((s.locks.get l).waiters.head? = some p)) false := by
  cases list : (s.locks.get l).waiters with
  | nil => simp [State.handoff_of_no_waiter list]
  | cons w ws =>
    rw [State.handoff_of_waiter list, State.raise_events_get]
    by_cases h : p = w
    · simp [h, EventUnit.raise_grant]
    · simp [h, Ne.symm h]

theorem State.expireLease_waits_get (s : State) (l : LockId) (g : Grant) (p : Port) :
    (s.expireLease l g).waits.get p = if (s.locks.get l).waiters.head? = some p then none else s.waits.get p := by
  simp [State.expireLease, State.handoff_waits_get, Table.get_modify]

theorem State.expireLease_events_get (s : State) (l : LockId) (g : Grant) (p : Port) :
    (s.expireLease l g).events.get p =
      (s.events.get p).told (decide ((s.locks.get l).waiters.head? = some p)) (decide (g.holder = p)) := by
  rw [State.expireLease, State.report_events, State.raise_events_get, State.handoff_events_get]
  by_cases h : p = g.holder
  · simp [h, Table.get_modify, EventUnit.raise_leaseLost, EventUnit.told_told]
  · simp [h, Ne.symm h, Table.get_modify]

theorem State.expireLease_reports (s : State) (l : LockId) (g : Grant) :
    (s.expireLease l g).reports =
      s.reports ++ if s.attached g.holder then [{ port := g.holder, kind := .leaseExpiry }] else [] := by
  rw [State.expireLease, State.report_reports, State.attached_congr (s := s) (by simp)]
  split <;> simp

end

/-! ### The whole tick -/

/-- From `s` to `t` the ticks at the locks `ls` have changed wait records, event units and the list of reports. -/
structure State.LeasesTaken (s : State) (ls : List LockId) (t : State) : Prop where
  waits : ∀ p, t.waits.get p = if ls.any fun m => (s.locks.get m).passesTo p then none else s.waits.get p
  events : ∀ p, t.events.get p =
    (s.events.get p).told (ls.any fun m => (s.locks.get m).passesTo p) (ls.any fun m => (s.locks.get m).isLostBy p)
  reports : t.reports = s.reports ++ ls.filterMap fun m => s.leaseReport (s.locks.get m)

theorem State.takeLease_taken (s : State) (l : LockId) : s.LeasesTaken [l] (s.takeLease l) := by
  cases ends : (s.locks.get l).leaseEnds with
  | false =>
    have passes : ∀ p, (s.locks.get l).passesTo p = false := fun p => by simp [Lock.passesTo, ends]
    have lost : ∀ p, (s.locks.get l).isLostBy p = false := fun p => by simp [Lock.isLostBy, ends]
    have silent : s.leaseReport (s.locks.get l) = none := by simp [State.leaseReport, ends]
    rcases State.takeLease_of_not_ends ends with same | lower
    · exact ⟨fun p => by simp [same, passes], fun p => by simp [same, passes, lost], by simp [same, silent]⟩
    · exact ⟨fun p => by simp [lower, passes], fun p => by simp [lower, passes, lost], by simp [lower, silent]⟩
  | true =>
    obtain ⟨g, held, expires⟩ := State.takeLease_of_ends ends
    refine ⟨fun p => ?_, fun p => ?_, ?_⟩
    · simp [expires, State.expireLease_waits_get, Lock.passesTo, ends]
    · simp [expires, State.expireLease_events_get, Lock.passesTo, Lock.isLostBy, ends, held]
    · rw [expires, State.expireLease_reports]
      by_cases attached : s.attached g.holder = true <;> simp [State.leaseReport, held, ends, attached]

/-- A further tick, at a lock whose record is still what it was. -/
theorem State.LeasesTaken.snoc {s t u : State} {ls : List LockId} {l : LockId} (h : s.LeasesTaken ls t)
    (record : t.locks.get l = s.locks.get l) (ports : t.ports = s.ports) (k : t.LeasesTaken [l] u) :
    s.LeasesTaken (ls ++ [l]) u where
  waits p := by
    rw [k.waits, h.waits, List.any_append]
    simp only [List.any_cons, List.any_nil, Bool.or_false, record]
    cases (ls.any fun m => (s.locks.get m).passesTo p) <;> simp
  events p := by
    rw [k.events, h.events, EventUnit.told_told, List.any_append, List.any_append]
    simp only [List.any_cons, List.any_nil, Bool.or_false, record]
  reports := by
    have same : t.leaseReport (t.locks.get l) = s.leaseReport (s.locks.get l) := by
      simp only [State.leaseReport, record, State.attached_congr ports]
    rw [k.reports, h.reports, List.filterMap_append, List.append_assoc]
    simp only [List.filterMap_cons, List.filterMap_nil, same]

/-- No lock's tick meets another lock's record, so the ticks at different locks add up. -/
theorem State.takeLeaseAll_taken (s : State) (ls : List LockId) (once : ls.Nodup) :
    s.LeasesTaken ls (ls.foldl State.takeLease s) := by
  induction ls using List.reverseRecOn with
  | nil => exact ⟨fun p => by simp, fun p => by simp, by simp⟩
  | append_singleton ls l ih =>
    obtain ⟨before, -, apart⟩ := List.nodup_append.1 once
    have untouched : l ∉ ls := fun hl => apart l hl l (by simp) rfl
    rw [List.foldl_append]
    exact (ih before).snoc (State.takeLeaseAll_locks_other ls s untouched) (by simp) (State.takeLease_taken _ l)

theorem State.takeLeases_taken (s : State) : s.LeasesTaken (indices 16) s.takeLeases := by
  obtain ⟨waits, events, reports⟩ :=
    ({ s with due := { s.due with locks := [] } } : State).takeLeaseAll_taken (indices 16) (nodup_indices 16)
  exact ⟨waits, events, reports⟩

/-- The tick touches lock records, wait records, event units and reports, and is due no more. -/
theorem State.takeLeases_eq (s : State) :
    s.takeLeases =
      { s with
        locks := s.takeLeases.locks, waits := s.takeLeases.waits, events := s.takeLeases.events
        reports := s.takeLeases.reports, due := { s.due with locks := [] } } := by
  have frame := s.takeLeases_frame
  generalize s.takeLeases = t at frame ⊢
  cases t
  simp_all

theorem exec_leaseExpiry_of_due {s : State} {l : LockId} (released : s.porAsserted = false) (due : l ∈ s.due.locks) :
    exec (.leaseExpiry l) s = .next s.takeLeases := by
  show s.unlessPowerOn (if l ∈ s.due.locks then s.takeLeases else s) = _
  rw [State.unlessPowerOn, released, if_pos due]
  rfl

/-- Settles O35: each lock by its own record (`State.takeLeases_locks`), the rest by `State.takeLeases_taken`. -/
theorem leaseExpiryRevokesAndHandsOff : Obligations.LeaseExpiryRevokesAndHandsOff := by
  intro s l released due ends granted lost
  have taken := s.takeLeases_taken
  refine ⟨s.takeLeases, exec_leaseExpiry_of_due released due, fun m => ?_, taken.waits, taken.events, taken.reports, s.takeLeases_eq⟩
  rw [State.takeLeases_locks]
  refine ⟨fun free => ?_, fun g held => ⟨fun unleased => ?_, fun n lease => ⟨fun runs => ?_, fun atEnd => ?_⟩⟩⟩
  · rw [State.takeLease_of_free free]
  · rw [State.takeLease_of_unleased held unleased]
  · rw [State.takeLease_of_running held lease runs, State.updLock_locks, Table.get_modify, if_pos rfl, Lock.lowerLease, held,
      Option.map_some, lease, Option.map_some]
  · rw [State.takeLease_of_ending held lease atEnd, State.expireLease_locks_same]
    dsimp only
    cases (s.locks.get m).waiters <;> rfl

end Sys2Proof.Machine
end

section
/-! The ranges of settings, scores, cool-downs and quotas (R17, R115, R124, R133, R154, R157), and what leaves them alone. -/

namespace Sys2Proof.Machine

/-! ### One port's record, and the settings -/

/-- What R124, R128, R131 and R133 say of one port's numbers. -/
structure PortRecord.InRange (r : PortRecord) : Prop where
  score : r.score ≤ 255
  coolDown : r.coolDown ≤ 2048
  coolDownOnlyIsolated : r.state ≠ .isolated → r.coolDown = 0
  quota : r.quota ≤ 256

/-- What R115, R154, R157 and R17 say of the settings and of the authorization counter. -/
structure State.SettingsInRange (s : State) : Prop where
  prescale : 1 ≤ s.time.prescale ∧ s.time.prescale ≤ 65536
  count : s.time.count < s.time.prescale
  quorum : s.device.quorum = 2 ∨ s.device.quorum = 3 ∨ s.device.quorum = 4
  authorization : s.device.authorization < 4096
  authorizationInConfig : s.device.state = .config → s.device.authorization = 0
  watermark : s.watermark ≤ s.geometry.slotCount

theorem State.inRange_iff {s : State} : s.InRange ↔ s.SettingsInRange ∧ ∀ p, (s.ports.get p).InRange where
  mp h := ⟨⟨h.prescale, h.count, h.quorum, h.authorization, h.authorizationInConfig, h.watermark⟩,
    fun p => ⟨h.score p, h.coolDown p, h.coolDownOnlyIsolated p, h.quota p⟩⟩
  mpr := fun ⟨h, ports⟩ =>
    { prescale := h.prescale
      count := h.count
      quorum := h.quorum
      authorization := h.authorization
      authorizationInConfig := h.authorizationInConfig
      watermark := h.watermark
      score := fun p => (ports p).score
      coolDown := fun p => (ports p).coolDown
      coolDownOnlyIsolated := fun p => (ports p).coolDownOnlyIsolated
      quota := fun p => (ports p).quota }

/-- Two port records agree in the fields that have a range, and in the state their cool-downs depend on. -/
structure PortRecord.SameRanges (r r' : PortRecord) : Prop where
  state : r'.state = r.state
  quota : r'.quota = r.quota
  score : r'.score = r.score
  coolDown : r'.coolDown = r.coolDown

section
variable {r r' : PortRecord}

@[simp] theorem PortRecord.sameRanges_refl (r : PortRecord) : r.SameRanges r := ⟨rfl, rfl, rfl, rfl⟩

theorem PortRecord.SameRanges.trans {r'' : PortRecord} (h : r.SameRanges r') (k : r'.SameRanges r'') : r.SameRanges r'' :=
  ⟨k.state.trans h.state, k.quota.trans h.quota, k.score.trans h.score, k.coolDown.trans h.coolDown⟩

theorem PortRecord.sameButAccount.sameRanges (h : r.sameButAccount r') : r.SameRanges r' := by
  obtain ⟨state, -, quota, score, coolDown, -, -⟩ := h
  exact ⟨state, quota, score, coolDown⟩

theorem PortRecord.InRange.same (h : r.InRange) (k : r.SameRanges r') : r'.InRange :=
  ⟨k.score ▸ h.score, k.coolDown ▸ h.coolDown, k.state ▸ k.coolDown ▸ h.coolDownOnlyIsolated, k.quota ▸ h.quota⟩

end

/-! ### Leaving the ranges aside -/

/-- Between `s` and `t` no setting and no number of a port with a range changes, but that the authorization counter may return
to 0. -/
structure State.RangesAside (s t : State) : Prop where
  geometry : t.geometry = s.geometry
  watermark : t.watermark = s.watermark
  time : t.time = s.time
  device : t.device = s.device ∨ t.device = { s.device with authorization := 0 }
  ports : ∀ p, (s.ports.get p).SameRanges (t.ports.get p)

section
variable {s t u : State}

theorem State.RangesAside.refl (s : State) : s.RangesAside s := ⟨rfl, rfl, rfl, .inl rfl, fun _ => PortRecord.sameRanges_refl _⟩

theorem State.RangesAside.trans (h : s.RangesAside t) (k : t.RangesAside u) : s.RangesAside u where
  geometry := k.geometry.trans h.geometry
  watermark := k.watermark.trans h.watermark
  time := k.time.trans h.time
  device := by rcases h.device with e | e <;> rcases k.device with e' | e' <;> simp [e, e']
  ports p := (h.ports p).trans (k.ports p)

/-- Field by field; an operation names the fields that it touches. -/
theorem State.RangesAside.of_fields (ports : ∀ p, (s.ports.get p).SameRanges (t.ports.get p) := by simp)
    (device : t.device = s.device ∨ t.device = { s.device with authorization := 0 } := by simp)
    (geometry : t.geometry = s.geometry := by simp) (watermark : t.watermark = s.watermark := by simp)
    (time : t.time = s.time := by simp) : s.RangesAside t := ⟨geometry, watermark, time, device, ports⟩

/-- An operation that, unfolded, writes none of these records. -/
theorem State.RangesAside.of_rfl (ports : t.ports = s.ports := by rfl) (device : t.device = s.device := by rfl)
    (geometry : t.geometry = s.geometry := by rfl) (watermark : t.watermark = s.watermark := by rfl)
    (time : t.time = s.time := by rfl) : s.RangesAside t :=
  ⟨geometry, watermark, time, .inl device, fun _ => ports ▸ PortRecord.sameRanges_refl _⟩

theorem State.RangesAside.foldl {α : Type} {f : State → α → State} (h : ∀ (s : State) a, s.RangesAside (f s a)) (l : List α)
    (s : State) : s.RangesAside (l.foldl f s) := by
  induction l generalizing s with
  | nil => exact .refl s
  | cons a l ih => exact (h s a).trans (ih (f s a))

/-- The settings depend on the geometry, the watermark, the time base and device control. -/
theorem State.SettingsInRange.congr (h : s.SettingsInRange) (geometry : t.geometry = s.geometry := by simp)
    (watermark : t.watermark = s.watermark := by simp) (time : t.time = s.time := by simp)
    (device : t.device = s.device := by simp) : t.SettingsInRange where
  prescale := time ▸ h.prescale
  count := time ▸ h.count
  quorum := device ▸ h.quorum
  authorization := device ▸ h.authorization
  authorizationInConfig := device ▸ h.authorizationInConfig
  watermark := geometry ▸ watermark ▸ h.watermark

theorem State.SettingsInRange.aside (h : s.SettingsInRange) (k : s.RangesAside t) : t.SettingsInRange := by
  rcases k.device with same | fell
  · exact h.congr k.geometry k.watermark k.time same
  · have reset : ({ s with device := { s.device with authorization := 0 } } : State).SettingsInRange :=
      { h with authorization := Nat.succ_pos _, authorizationInConfig := fun _ => rfl }
    exact reset.congr k.geometry k.watermark k.time fell

theorem State.InRange.aside (h : s.InRange) (k : s.RangesAside t) : t.InRange := by
  obtain ⟨settings, ports⟩ := State.inRange_iff.1 h
  exact State.inRange_iff.2 ⟨settings.aside k, fun p => (ports p).same (k.ports p)⟩

/-- A changed port record keeps its ranges where the change keeps those of the record it finds. -/
theorem State.InRange.updPort (h : s.InRange) {p : Port} {f : PortRecord → PortRecord}
    (range : (f (s.ports.get p)).InRange) : (s.updPort p f).InRange := by
  obtain ⟨settings, ports⟩ := State.inRange_iff.1 h
  refine State.inRange_iff.2 ⟨settings.congr, fun q => ?_⟩
  rw [State.updPort_ports, PerPort.get_modify]
  split
  · exact range
  · exact ports q

end

end Sys2Proof.Machine
end

section
/-! The shared operations leave the ranges of settings and port records aside. -/

namespace Sys2Proof.Machine

section
variable (s : State) (p : Port)

theorem State.updPort_rangesAside {f : PortRecord → PortRecord} (same : ∀ r : PortRecord, r.SameRanges (f r)) :
    s.RangesAside (s.updPort p f) := by
  refine .of_fields (ports := fun q => ?_)
  rw [State.updPort_ports, PerPort.get_modify]
  split
  · next h => exact h ▸ same _
  · exact PortRecord.sameRanges_refl _

/-! ### References, entries, holds (R5) -/

theorem State.release_rangesAside (i : SlotId) : s.RangesAside (s.release i) :=
  .of_fields (ports := fun q => (s.release_ports i q).sameRanges)

theorem State.releaseAll_rangesAside (is : List SlotId) : s.RangesAside (s.releaseAll is) :=
  .of_fields (ports := fun q => (State.releaseAll_ports is s q).sameRanges)

theorem State.dropEntries_rangesAside (f : Entry → Bool) : s.RangesAside (s.dropEntries p f) :=
  State.RangesAside.trans (t := s.setQueue p ((s.queues.get p).filter fun e => !f e)) .of_fields
    (State.releaseAll_rangesAside _ _)

theorem State.emptyHold_rangesAside : s.RangesAside (s.emptyHold p) := by
  unfold State.emptyHold
  split
  · next h _ => exact (s.release_rangesAside h.entry.slot).trans .of_fields
  · exact .refl s

theorem State.loseOldest_rangesAside (ch : ChannelId) : s.RangesAside (s.loseOldest p ch) := by
  unfold State.loseOldest
  split
  · next e _ =>
    have pulled : s.RangesAside (s.pullOldest p fun x => decide (x.channel = ch)) := .of_fields
    exact (pulled.trans (State.release_rangesAside _ e.slot)).trans .of_fields
  · exact .refl s

theorem State.trim_rangesAside (ch : ChannelId) (k : Nat) : s.RangesAside (s.trim p ch k) := by
  induction k generalizing s with
  | zero => exact .refl s
  | succ k ih => exact (s.loseOldest_rangesAside p ch).trans (ih _)

/-! ### Closing a channel (R36) -/

/-- Requests that leave the publish queue change accounts only. -/
theorem State.withdrawAll_rangesAside (o : PublishOutcome) (f : Request → Bool) :
    s.RangesAside ((s.publishQueue.filter f).foldl (fun t r => t.withdraw o r)
      { s with publishQueue := s.publishQueue.filter fun r => !f r }) := by
  have withdrawn : ∀ (t : State) (rs : List Request), t.RangesAside (rs.foldl (fun t r => t.withdraw o r) t) := fun t rs =>
    .of_fields (ports := fun q => (t.withdrawAll_ports q o rs).sameRanges)
  exact .trans (t := { s with publishQueue := s.publishQueue.filter fun r => !f r }) .of_fields (withdrawn _ _)

theorem State.closeChannel_rangesAside (ch : ChannelId) : s.RangesAside (s.closeChannel ch) := by
  unfold State.closeChannel
  split
  · exact .refl s
  next d _ =>
  have requests : s.RangesAside (s.closeRequests ch) := s.withdrawAll_rangesAside .channelClosed (s.requestOn ch)
  have entries : ∀ t : State, t.RangesAside (t.closeEntries ch) :=
    .foldl (fun u q => u.dropEntries_rangesAside q fun e => decide (e.channel = ch)) Port.all
  have value : ∀ t : State, t.RangesAside (t.closeCurrent d) := by
    intro t
    unfold State.closeCurrent
    split
    · exact t.release_rangesAside _
    · exact .refl t
  exact ((requests.trans (entries _)).trans (value _)).trans .of_fields

theorem State.closeIfClosing_rangesAside (ch : ChannelId) : s.RangesAside (s.closeIfClosing ch) := by
  unfold State.closeIfClosing
  split
  · exact s.closeChannel_rangesAside ch
  · exact .refl s

/-! ### Fan-out (R52 to R58) -/

theorem State.startFanOut_rangesAside (r : Request) (rest : List Request) (m : Message) :
    s.RangesAside (s.startFanOut r rest m) := by
  have taken : s.RangesAside (s.takeHead r rest) := .of_fields
  have installed : ∀ (t : State) (d : ChannelDef), t.RangesAside (t.installCurrent m.channel d r.slot) := by
    intro t d
    unfold State.installCurrent
    have added : t.RangesAside ((t.addRef r.slot).updDefn m.channel fun e => { e with current := some r.slot }) := .of_fields
    dsimp only
    split
    · exact added.trans (State.release_rangesAside _ _)
    · exact added
  unfold State.startFanOut
  dsimp only
  split
  · exact taken
  split
  · exact taken
  · exact taken.trans (installed _ _)

theorem State.placeStream_rangesAside (b : Subscription) (e : Entry) : s.RangesAside (s.placeStream p b e).1 := by
  unfold State.placeStream
  split_ifs
  · exact .of_fields
  · exact (s.loseOldest_rangesAside p e.channel).trans .of_fields
  · exact .of_fields

theorem State.advance_rangesAside (f : FanOut) (n : Counts) : s.RangesAside (s.advance f p n) :=
  .of_rfl

theorem State.visit_rangesAside (f : FanOut) (m : Message) : s.RangesAside (s.visit f p m) := by
  unfold State.visit
  dsimp only
  split
  case h_4 b _ =>
    have placed := s.placeStream_rangesAside p b (m.placed f.request)
    split <;> next e =>
      rw [e] at placed
      exact placed.trans (State.advance_rangesAside _ p f _)
  case h_5 =>
    have notified : s.RangesAside (s.notify m.channel p) := .of_fields
    exact notified.trans (State.advance_rangesAside _ p f _)
  all_goals exact s.advance_rangesAside p f _

theorem State.endFanOut_rangesAside (f : FanOut) (m : Message) : s.RangesAside (s.endFanOut f m) := by
  unfold State.endFanOut
  dsimp only
  refine .trans ?_ (State.closeIfClosing_rangesAside _ _)
  exact (s.release_rangesAside f.request.slot).trans .of_fields

/-! ### Expiry and the lock table's tick (R120, R103) -/

theorem State.expireEntries_rangesAside (i : SlotId) (ch : ChannelId) : s.RangesAside (s.expireEntries i ch p) := by
  unfold State.expireEntries
  split
  · exact (s.dropEntries_rangesAside p fun e => decide (e.slot = i)).trans .of_fields
  · exact .refl s

theorem State.withdrawCurrent_rangesAside (ch : ChannelId) (i : SlotId) : s.RangesAside (s.withdrawCurrent ch i) := by
  unfold State.withdrawCurrent
  split
  · exact .refl s
  next d _ =>
  split
  · have counted : ∀ (t : State) q, t.RangesAside (t.countExpired q ch) := fun t q => .of_fields
    refine (State.RangesAside.foldl counted d.unread s).trans (.trans ?_ (State.release_rangesAside _ i))
    exact .of_fields
  · exact .refl s

theorem State.expireLive_rangesAside (i : SlotId) (m : Message) : s.RangesAside (s.expireLive i m) := by
  refine .trans (.trans ?_ (.foldl (fun t q => t.expireEntries_rangesAside q i m.channel) Port.all _))
    (State.withdrawCurrent_rangesAside _ m.channel i)
  exact .of_fields

theorem State.expireSlot_rangesAside (i : SlotId) (m : Message) : s.RangesAside (s.expireSlot i m) := by
  unfold State.expireSlot
  split
  · exact s.withdrawAll_rangesAside .expired fun r => decide (r.slot = i)
  · have marked : s.RangesAside (s.markExpired i) := .of_fields
    exact marked.trans (State.expireLive_rangesAside _ i m)
  · exact s.expireLive_rangesAside i m
  · exact .refl s

theorem State.takeLifetime_rangesAside (i : SlotId) : s.RangesAside (s.takeLifetime i) := by
  have taken : s.RangesAside { s with due := { s.due with slots := s.due.slots.filter fun j => decide (j ≠ i) } } := .of_fields
  unfold State.takeLifetime
  dsimp only
  split
  · exact taken
  split
  · exact taken.trans (State.expireSlot_rangesAside _ i _)
  · exact taken

theorem State.takeLeases_rangesAside : s.RangesAside s.takeLeases := .of_fields

/-! ### Votes and the purge (R156, R132) -/

/-- A vote that leaves the count below the quorum returns the authorization counter to 0 (R157). -/
theorem State.voteFell_device : s.voteFell.device = s.device ∨ s.voteFell.device = { s.device with authorization := 0 } := by
  unfold State.voteFell
  split
  · exact .inr rfl
  · exact .inl rfl

theorem State.voteFell_rangesAside : s.RangesAside s.voteFell := .of_fields (device := s.voteFell_device)

theorem State.setVote_rangesAside (vote : Bool) : s.RangesAside (s.updPort p fun r => { r with vote := vote }) :=
  s.updPort_rangesAside p fun _ => ⟨rfl, rfl, rfl, rfl⟩

theorem State.withdrawVote_rangesAside : s.RangesAside (s.withdrawVote p) :=
  (s.setVote_rangesAside p false).trans (State.voteFell_rangesAside _)

theorem State.castVote_rangesAside : s.RangesAside (s.castVote p) := by
  unfold State.castVote
  split
  · exact .refl s
  · exact (s.setVote_rangesAside p true).trans .of_fields

theorem State.purge_rangesAside : s.RangesAside (s.purge p) := by
  have fell : ∀ u : State, u.device = s.device →
      (u.withdrawVote p).device = s.device ∨ (u.withdrawVote p).device = { s.device with authorization := 0 } :=
    fun u same => same ▸ (u.withdrawVote_rangesAside p).device
  have device : (s.purge p).device = s.device ∨ (s.purge p).device = { s.device with authorization := 0 } := by
    simp only [State.purge, State.clearPending_frame, State.dropReports_frame]
    exact fell _ (by simp)
  refine .of_fields (device := device) (ports := fun q => ?_)
  have accounts := fun is => (State.releaseAll_ports is s q).sameRanges
  rw [(s.purge_pool p).2.2.2 q]
  split
  · exact (accounts _).trans ⟨rfl, rfl, rfl, rfl⟩
  · exact accounts _

end

end Sys2Proof.Machine
end

section
/-! Every row keeps settings, scores, cool-downs, quotas and the authorization counter in range. -/

namespace Sys2Proof.Machine

/-! ### One port's record -/

section
variable {r : PortRecord}

theorem PortRecord.initial_inRange : PortRecord.initial.InRange := ⟨by decide, by decide, fun _ => rfl, by decide⟩

/-- A success lowers the score (R128). -/
theorem PortRecord.InRange.lower (h : r.InRange) : ({ r with score := r.score - 1 } : PortRecord).InRange :=
  { h with score := (Nat.sub_le ..).trans h.score }

/-- A base tick lowers a cool-down (R133). -/
theorem PortRecord.InRange.cool (h : r.InRange) : r.cool.InRange := by
  unfold PortRecord.cool
  split
  · next isolated =>
    exact { h with coolDown := (Nat.sub_le ..).trans h.coolDown, coolDownOnlyIsolated := fun away => absurd isolated away }
  · exact h

/-- A port attaches with a quota within the slot count, and not during its cool-down (R126). -/
theorem PortRecord.InRange.attach (h : r.InRange) (identity : Word) {quota : Nat} (bound : quota ≤ 256)
    (cooled : r.state = .isolated → r.coolDown = 0) : (r.attach identity quota).InRange := by
  have score : (r.attach identity quota).score ≤ r.score := by
    simp only [PortRecord.attach]
    split_ifs <;> omega
  have coolDown : r.coolDown = 0 := by
    by_cases isolated : r.state = .isolated
    · exact cooled isolated
    · exact h.coolDownOnlyIsolated isolated
  exact ⟨score.trans h.score, h.coolDown, fun _ => coolDown, bound⟩

/-- Isolation sets score and cool-down to their limits (R131). -/
theorem PortRecord.InRange.isolated (h : r.InRange) :
    ({ r with score := Config.isolatedScore, state := .isolated, coolDown := Config.coolDown } : PortRecord).InRange :=
  ⟨le_rfl, le_rfl, fun away => absurd rfl away, h.quota⟩

/-- A port that was not in isolation leaves (R127, R134). -/
theorem PortRecord.InRange.offline (h : r.InRange) (attached : r.state = .attached) :
    ({ r with state := .offline } : PortRecord).InRange :=
  { h with coolDownOnlyIsolated := fun _ => h.coolDownOnlyIsolated (by simp [attached]) }

end

section
variable {s t : State} {p : Port}

theorem State.InRange.port (h : s.InRange) (p : Port) : (s.ports.get p).InRange := (State.inRange_iff.1 h).2 p

/-! ### Reports (R128, R131) -/

theorem State.InRange.isolate (h : s.InRange) (p : Port) : (s.isolate p).InRange := by
  have isolated := h.updPort (p := p)
    (f := fun r => { r with score := Config.isolatedScore, state := .isolated, coolDown := Config.coolDown }) (h.port p).isolated
  exact (isolated.aside .of_rfl).aside (State.purge_rangesAside _ p)

theorem State.InRange.charge (h : s.InRange) (p : Port) : (s.charge p).InRange := by
  unfold State.charge
  dsimp only
  split
  · exact h.isolate p
  next below =>
  have scored : (s.updPort p fun r => { r with score := (s.ports.get p).score + Config.faultPoints }).InRange :=
    h.updPort { h.port p with score := Nat.le_of_lt_succ (Nat.lt_of_not_le below) }
  split
  · exact scored.aside .of_fields
  · exact scored

theorem State.InRange.lowerScore (h : s.InRange) (p : Port) : (s.lowerScore p).InRange := h.updPort (h.port p).lower

theorem State.InRange.takeReport (h : s.InRange) (p : Port) (k : ReportKind) : (s.score p k).InRange := by
  unfold State.score
  split
  · cases k with
    | success => exact h.lowerScore p
    | refusal => exact h
    | fault => exact h.charge p
    | leaseExpiry => exact h.charge p
  · exact h

/-! ### A port leaves (R127, R134) -/

theorem State.InRange.purgeLeave (h : s.InRange) (attached : (s.ports.get p).state = .attached) :
    ((s.purge p).updPort p fun r => { r with state := .offline }).InRange := by
  have aside := s.purge_rangesAside p
  have purged := h.aside aside
  exact purged.updPort ((purged.port p).offline ((aside.ports p).state.trans attached))

theorem State.InRange.detached (h : s.InRange) (attached : (s.ports.get p).state = .attached) : (s.detached p).InRange := by
  refine (h.lowerScore p).purgeLeave ?_
  rw [State.lowerScore, State.updPort_ports, PerPort.get_modify, if_pos rfl]
  exact attached

theorem State.InRange.portReset (h : s.InRange) (p : Port) : (s.portReset p).InRange := by
  have byState : (s.portResetByState p).InRange := by
    unfold State.portResetByState
    split
    · next attached => exact h.purgeLeave (State.attached_eq_true.1 attached)
    · exact h.aside .of_fields
  exact byState.aside .of_rfl

/-! ### Resets (R152, R158) -/

theorem State.InRange.deviceReset (h : s.InRange) : s.deviceReset.InRange := by
  refine State.inRange_iff.2 ⟨⟨h.prescale, h.prescale.1, h.quorum, Nat.succ_pos _, fun _ => rfl, h.watermark⟩, fun p => ?_⟩
  exact (PerPort.get_all PortRecord.initial p).symm ▸ PortRecord.initial_inRange

theorem State.powerOn_inRange (s : State) : s.powerOn.InRange := by
  have settings : State.reset.SettingsInRange :=
    ⟨by decide, by decide, .inr (.inl rfl), by decide, fun _ => rfl, by decide⟩
  refine State.inRange_iff.2 ⟨settings.congr rfl rfl rfl rfl, fun p => ?_⟩
  exact (PerPort.get_all PortRecord.initial p).symm ▸ PortRecord.initial_inRange

/-! ### Ticks (R115, R133, R157) -/

theorem State.InRange.takeCoolDowns (h : s.InRange) : s.takeCoolDowns.InRange := by
  obtain ⟨settings, ports⟩ := State.inRange_iff.1 h
  refine State.inRange_iff.2 ⟨settings.congr, fun p => ?_⟩
  exact (PerPort.get_map PortRecord.cool s.ports p).symm ▸ (ports p).cool

theorem State.run_of_quorate (h : s.quorate = true) : s.device.state = .run := by
  simp only [State.quorate, Bool.and_eq_true, decide_eq_true_eq] at h
  exact h.1

/-- In RUN the authorization counter may advance to any value below its limit (R157). -/
theorem State.InRange.authorize (h : s.InRange) (run : s.device.state = .run) {n : Nat} (below : n < 4096) :
    ({ s with device := { s.device with authorization := n } } : State).InRange :=
  { h with authorization := below, authorizationInConfig := fun config => by simp [run] at config }

theorem State.InRange.takeAuthorization (h : s.InRange) : s.takeAuthorization.InRange := by
  have taken : ({ s with due := { s.due with authorization := false } } : State).InRange := h.aside .of_fields
  unfold State.takeAuthorization
  dsimp only
  split
  · next quorate =>
    split
    · exact taken.deviceReset
    · next below => exact taken.authorize (State.run_of_quorate quorate) (Nat.lt_of_not_le below)
  · exact taken

theorem State.InRange.deviceTick (h : s.InRange) : ({ s with device := s.deviceTick } : State).InRange := by
  unfold State.deviceTick
  split
  · next advances =>
    obtain ⟨quorate, below⟩ := advances
    exact h.authorize (State.run_of_quorate quorate) below
  · exact h

theorem State.InRange.deliverTick (h : s.InRange) : s.deliverTick.InRange := by
  obtain ⟨settings, ports⟩ := State.inRange_iff.1 h.deviceTick
  refine State.inRange_iff.2 ⟨{ settings with count := h.prescale.1 }, fun p => ?_⟩
  unfold State.deliverTick
  dsimp only
  split
  · exact (PerPort.get_map PortRecord.cool s.ports p).symm ▸ (ports p).cool
  · exact ports p

theorem State.InRange.baseTick (h : s.InRange) : s.baseTick.InRange :=
  State.baseTick_keeps (P := State.InRange) (fun u i k => k.aside (u.takeLifetime_rangesAside i))
    (fun u k => k.aside u.takeLeases_rangesAside) (fun _ k => k.takeCoolDowns) (fun _ k => k.takeAuthorization)
    (fun _ k => k.deviceReset) (fun _ k => k.deliverTick) h

theorem State.InRange.countCycle (h : s.InRange) (before : s.tickNext = false) :
    ({ s with time := { s.time with count := s.time.count + 1 } } : State).InRange :=
  { h with count := Nat.lt_of_not_le (of_decide_eq_false before) }

/-! ### Every row -/

/-- What a command makes of the state keeps the ranges. -/
theorem State.Takes.inRange {a : Words6} {c : Command} (k : s.Takes p a c t) (h : s.InRange) : t.InRange := by
  cases k
  case unchanged => exact h
  case attach quota _ cooled _ =>
    have attached := (h.port p).attach a.w0 (quota.trans s.geometry.slotCount_le) cooled
    exact State.InRange.aside (h.updPort (f := fun _ => (s.ports.get p).attach a.w0 a.w1.toNat) attached) .of_rfl
  case detach attached => exact h.detached attached
  case voteReset => exact h.aside (s.castVote_rangesAside p)
  case withdrawVote => exact h.aside (s.withdrawVote_rangesAside p)
  case start => exact { h with authorizationInConfig := fun run => by cases run }
  case setGeometry g _ _ _ => exact { h with watermark := Nat.min_le_right .. }
  case setTimebase => exact { h with prescale := ⟨Nat.succ_pos _, a.w0.isLt⟩, count := Nat.succ_pos _ }
  case setQuorum range => 
    exact { h with quorum := range.imp (congrArg BitVec.toNat) (Or.imp (congrArg BitVec.toNat) (congrArg BitVec.toNat)) }
  case setWatermark range => exact { h with watermark := range }
  case reserve ch i rest _ _ _ _ _ _ =>
    have reserved : s.RangesAside (s.reserveSlot p ch i rest) :=
      (s.updPort_rangesAside p (f := fun r => { r with account := r.account + 1 }) fun _ => ⟨rfl, rfl, rfl, rfl⟩).trans .of_rfl
    exact h.aside (reserved.trans .of_fields)
  case abandon i _ _ => exact h.aside ((s.release_rangesAside i).trans .of_fields)
  case publish =>
    exact h.aside ((s.updPort_rangesAside p (f := fun r => { r with credits := r.credits - 1 })
      fun _ => ⟨rfl, rfl, rfl, rfl⟩).trans .of_rfl)
  case collect =>
    exact h.aside ((s.updPort_rangesAside p (f := fun r => { r with credits := r.credits + 1 })
      fun _ => ⟨rfl, rfl, rfl, rfl⟩).trans .of_rfl)
  case discard x e _ _ _ _ =>
    have pulled : s.RangesAside (s.pullOldest p x.matches) := .of_fields
    exact h.aside (pulled.trans (State.release_rangesAside _ e.slot))
  case done => exact h.aside (s.emptyHold_rangesAside p)
  case subscribeAgain ch r _ _ _ _ _ _ _ _ => exact h.aside (.trans .of_fields (State.trim_rangesAside _ r ch _))
  case unsubscribe ch r _ _ _ _ _ =>
    exact h.aside ((s.dropEntries_rangesAside r fun e => decide (e.channel = ch)).trans .of_fields)
  case closeNow ch _ _ _ => exact h.aside (s.closeChannel_rangesAside ch)
  case take | readState | acquireFree | acquireQueued | release | renew | cancelWait | setLease | freezeLock | defineChannel |
    setChannel | subscribeNew | suspend | resume | closeDeferred | freezeChannel | clearCounts => exact h.aside .of_fields

/-- What an event or an access makes of the state keeps the ranges. -/
theorem State.Happens.inRange (k : s.Happens t) (h : s.InRange) : t.InRange := by
  cases k
  case unchanged => exact h
  case powerOn => exact s.powerOn_inRange
  case portReset p => exact h.portReset p
  case ticked => exact h.baseTick
  case counted before => exact h.countCycle before
  case lifetimeEnds i _ => exact h.aside (s.takeLifetime_rangesAside i)
  case leasesTick => exact h.aside s.takeLeases_rangesAside
  case coolDownsTick => exact h.takeCoolDowns
  case authorizationTicks => exact h.takeAuthorization
  case scored p kind _ =>
    have taken : ({ s with reports := s.reports.erase { port := p, kind := kind } } : State).InRange := h.aside .of_fields
    exact taken.takeReport p kind
  case fanOutStarts r rest m _ _ _ => exact h.aside (s.startFanOut_rangesAside r rest m)
  case visited f p m _ _ _ => exact h.aside (s.visit_rangesAside p f m)
  case fanOutEnds f m _ _ _ => exact h.aside (s.endFanOut_rangesAside f m)
  case pornReleased | filled | locationFault | plainWritten => exact h.aside .of_rfl
  case commandIssued | codeRejected | fillPointed | driven | dataRead | readPointed | eventsWritten | ticksRead =>
    exact h.aside .of_fields

end

/-- Settles O54: `step_keeps`; a row sets one of these within its limits, or leaves the ranges aside. -/
theorem everyStepKeepsSettingsInRange : Obligations.EveryStepKeepsSettingsInRange := by
  intro s t hs h
  refine step_keeps (P := State.InRange) (fun _ _ k => k.aside .of_fields) (fun u v hu k => ?_) hs h
  exact k.keeps (fun _ _ _ _ x => x.inRange hu) (fun _ _ _ _ _ x => x.aside .of_rfl)
    (fun _ _ _ _ _ x => x.aside .of_rfl) (fun _ x => x.deviceReset) (fun _ x => x.inRange hu)

end Sys2Proof.Machine
end

section
/-! The tick counter and the base tick (R115 to R119, R103, R133, R157), each against its statement. -/

namespace Sys2Proof.Machine

/-! ### Reading the tick counter (R117) -/

section
variable {s : State}

/-- Offset 18h: the low word onto the pins, the high word captured. -/
theorem State.readTicks_low (s : State) (p : Port) :
    s.readTicks p .low =
      { s with
        windows := s.windows.set p
          { s.windows.get p with
            capture := s.time.ticks.extractLsb' 16 16, readData := s.time.ticks.extractLsb' 0 16 } } := by
  simp only [State.readTicks, State.driveData, State.updWindow, PerPort.modify, PerPort.set_set, PerPort.get_set_same, highWord,
    lowWord]

/-- Offset 19h: the capture onto the pins. -/
theorem State.readTicks_high (s : State) (p : Port) :
    s.readTicks p .high =
      { s with windows := s.windows.set p { s.windows.get p with readData := (s.windows.get p).capture } } := rfl

theorem exec_tickCount (released : s.porAsserted = false) (p : Port) (h : Half) :
    exec (.tickCount p h) s = .next (s.readTicks p h) := by
  show Host.Outcome.next (if s.porAsserted then s.driveData p 0 else s.readTicks p h) = _
  rw [released]
  rfl

end

/-- Settles O43: `State.readTicks` at each of the two offsets. -/
theorem tickCountIsReadConsistently : Obligations.TickCountIsReadConsistently := by
  intro s p released
  exact ⟨s.readTicks_low p ▸ exec_tickCount released p .low, s.readTicks_high p ▸ exec_tickCount released p .high⟩

/-! ### The rows of the prescaler (R115) -/

section
variable {s t : State}

theorem State.unlessPowerOn_of_released (released : s.porAsserted = false) (t : State) : s.unlessPowerOn t = .next t := by
  rw [State.unlessPowerOn, released]
  rfl

/-- Before the period is complete the row BASE_TICK changes nothing (log 1), and a cycle counts. -/
theorem exec_baseTick_of_before (released : s.porAsserted = false) (before : s.time.count + 1 < s.time.prescale) :
    exec .baseTick s = .next s := by
  refine (State.unlessPowerOn_of_released released _).trans ?_
  rw [State.tickNext, decide_eq_false (Nat.not_le.2 before)]
  rfl

theorem exec_refclkCycle_of_before (released : s.porAsserted = false) (before : s.time.count + 1 < s.time.prescale) :
    exec .refclkCycle s = .next { s with time := { s.time with count := s.time.count + 1 } } := by
  refine (State.unlessPowerOn_of_released released _).trans ?_
  rw [State.tickNext, decide_eq_false (Nat.not_le.2 before)]
  rfl

/-- The cycle that completes the period is the base tick, whichever row carries it (log 2). -/
theorem exec_baseTick_of_complete (released : s.porAsserted = false) (complete : s.time.prescale ≤ s.time.count + 1) :
    exec .baseTick s = .next s.baseTick := by
  refine (State.unlessPowerOn_of_released released _).trans ?_
  rw [State.tickNext, decide_eq_true complete]
  rfl

theorem exec_refclkCycle_of_complete (released : s.porAsserted = false) (complete : s.time.prescale ≤ s.time.count + 1) :
    exec .refclkCycle s = .next s.baseTick := by
  refine (State.unlessPowerOn_of_released released _).trans ?_
  rw [State.tickNext, decide_eq_true complete]
  rfl

/-! ### What a tick ends (R119, R103, R133, R157) -/

/-- A countdown ends at 1. -/
theorem ending_iff {n : Option Nat} : ending n = true ↔ ∃ k, n = some k ∧ k ≤ 1 := by
  simp only [ending, Option.any_eq_true, decide_eq_true_eq]

theorem State.mem_dueNow_slots {i : SlotId} :
    i ∈ s.dueNow.slots ↔ ∃ m n, s.message? i = some m ∧ m.lifetime = some n ∧ n ≤ 1 := by
  simp only [State.dueNow, List.mem_filter, mem_indices, true_and, Option.any_eq_true, ending_iff, exists_and_left]

theorem State.mem_dueNow_locks {l : LockId} :
    l ∈ s.dueNow.locks ↔ ∃ g n, (s.locks.get l).grant = some g ∧ g.lease = some n ∧ n ≤ 1 := by
  simp only [State.dueNow, List.mem_filter, mem_indices, true_and, Option.any_eq_true, ending_iff, exists_and_left]

/-- A cool-down runs above 0 only, so it ends at 1. -/
theorem State.mem_dueNow_ports {p : Port} :
    p ∈ s.dueNow.ports ↔ (s.ports.get p).state = .isolated ∧ (s.ports.get p).coolDown = 1 := by
  simp only [State.dueNow, List.mem_filter, Port.mem_all, true_and, ending_iff, PortRecord.cooling?]
  split
  · next running =>
    obtain ⟨isolated, above⟩ := running
    simp only [Option.some.injEq, exists_eq_left', isolated, true_and]
    omega
  · next idle =>
    refine ⟨fun ⟨_, running, _⟩ => (nomatch running), fun ⟨isolated, one⟩ => ?_⟩
    exact absurd ⟨isolated, one ▸ Nat.one_pos⟩ idle

theorem State.quorate_iff : s.quorate = true ↔ s.device.state = .run ∧ s.device.quorum ≤ s.voteCount := by
  simp only [State.quorate, Bool.and_eq_true, decide_eq_true_eq]

theorem State.dueNow_authorization_iff :
    s.dueNow.authorization = true ↔
      (s.device.state = .run ∧ s.device.quorum ≤ s.voteCount) ∧ 4096 ≤ s.device.authorization + 1 := by
  simp only [State.dueNow, Bool.and_eq_true, decide_eq_true_eq, State.quorate_iff, Config.authorizationLimit]

/-! ### What a tick makes of the records -/

theorem State.deliverTick_slots_get (s : State) (i : SlotId) :
    s.deliverTick.slots.get i =
      match (s.slots.get i).use with
      | .message m => { s.slots.get i with use := .message { m with lifetime := lowered m.lifetime } }
      | _ => s.slots.get i := by
  refine (Table.get_map Slot.tick s.slots i).trans ?_
  unfold Slot.tick
  cases (s.slots.get i).use <;> rfl

/-- A lease above 1 falls by one (R103). -/
theorem Lock.tick_of_running {k : Lock} (running : ∀ g n, k.grant = some g → g.lease = some n → 1 < n) :
    k.tick = { k with grant := k.grant.map fun g => { g with lease := g.lease.map fun n => n - 1 } } := by
  unfold Lock.tick
  cases held : k.grant with
  | none => rfl
  | some g =>
    cases lease : g.lease with
    | none => simp [lowered, lease]
    | some n => simp [lowered, lease, running g n held lease]

theorem State.deliverTick_locks_of_running
    (running : ∀ l g n, (s.locks.get l).grant = some g → g.lease = some n → 1 < n) (l : LockId) :
    s.deliverTick.locks.get l =
      { s.locks.get l with grant := (s.locks.get l).grant.map fun g => { g with lease := g.lease.map fun n => n - 1 } } := by
  have none : s.dueNow.locks = [] := List.eq_nil_iff_forall_not_mem.2 fun m due => by
    obtain ⟨g, n, held, lease, ends⟩ := State.mem_dueNow_locks.1 due
    exact absurd (running m g n held lease) (Nat.not_lt.2 ends)
  rw [State.deliverTick_locks, if_pos none, Table.get_map, Lock.tick_of_running (running l)]

theorem State.deliverTick_locks_of_ending {l : LockId} (due : l ∈ s.dueNow.locks) : s.deliverTick.locks = s.locks := by
  rw [State.deliverTick_locks, if_neg (List.ne_nil_of_mem due)]

theorem State.deliverTick_ports (s : State) :
    s.deliverTick.ports = if s.dueNow.ports = [] then s.ports.map PortRecord.cool else s.ports := rfl

theorem State.deliverTick_ports_of_running
    (running : ∀ p, (s.ports.get p).state = .isolated → (s.ports.get p).coolDown ≠ 1) (p : Port) :
    s.deliverTick.ports.get p = (s.ports.get p).cool := by
  have none : s.dueNow.ports = [] := List.eq_nil_iff_forall_not_mem.2 fun q due => by
    obtain ⟨isolated, one⟩ := State.mem_dueNow_ports.1 due
    exact running q isolated one
  rw [State.deliverTick_ports, if_pos none, PerPort.get_map]

theorem State.deliverTick_ports_of_ending {p : Port} (due : p ∈ s.dueNow.ports) : s.deliverTick.ports = s.ports := by
  rw [State.deliverTick_ports, if_neg (List.ne_nil_of_mem due)]

/-- While quorate in RUN the authorization counter goes one on below its limit (R157). -/
theorem State.deviceTick_of_advance (quorate : s.quorate = true) (below : s.device.authorization + 1 < 4096) :
    s.deviceTick = { s.device with authorization := s.device.authorization + 1 } := if_pos ⟨quorate, below⟩

theorem State.deviceTick_of_stay (stays : ¬s.quorate = true ∨ 4096 ≤ s.device.authorization + 1) : s.deviceTick = s.device :=
  if_neg fun ⟨quorate, below⟩ => stays.elim (absurd quorate) (Nat.not_le.2 below)

/-! ### Shares of the last tick (log 8) -/

theorem State.settleShares_of_nothing_due (slots : s.due.slots = []) (locks : s.due.locks = []) (ports : s.due.ports = []) :
    s.settleShares = s := by
  simp [State.settleShares, slots, locks, ports]

theorem State.baseTick_of_nothing_due (none : s.due = Due.none) : s.baseTick = s.deliverTick := by
  unfold State.baseTick
  rw [State.settleShares_of_nothing_due (by simp [none, Due.none]) (by simp [none, Due.none]) (by simp [none, Due.none])]
  simp [none, Due.none]

/-- A share taken ahead of the base tick is one that the base tick would have taken first. -/
theorem State.baseTick_congr (h : s.settleShares = t.settleShares) : s.baseTick = t.baseTick := by
  unfold State.baseTick
  rw [h]

theorem State.baseTick_of_slot {i : SlotId} {rest : List SlotId} (due : s.due.slots = i :: rest) (once : i ∉ rest) :
    s.baseTick = (s.takeLifetime i).baseTick := by
  have remaining : (s.takeLifetime i).due.slots = rest := by
    rw [State.takeLifetime_due, due]
    simpa using fun j hj => ne_of_mem_of_not_mem hj once
  exact State.baseTick_congr (by rw [State.settleShares, State.settleShares, due, remaining, List.foldl_cons])

theorem State.baseTick_of_leases {l : LockId} (slots : s.due.slots = []) (due : l ∈ s.due.locks) :
    s.baseTick = s.takeLeases.baseTick := by
  refine State.baseTick_congr ?_
  simp [State.settleShares, slots, List.ne_nil_of_mem due]

theorem State.baseTick_of_coolDowns {p : Port} (slots : s.due.slots = []) (locks : s.due.locks = []) (due : p ∈ s.due.ports) :
    s.baseTick = s.takeCoolDowns.baseTick := by
  refine State.baseTick_congr ?_
  simp [State.settleShares, slots, locks, List.ne_nil_of_mem due]

/-- The tick at device control that would take the counter to its limit resets the device (R157). -/
theorem State.takeAuthorization_of_limit (quorate : s.quorate = true) (limit : 4096 ≤ s.device.authorization + 1) :
    s.takeAuthorization = s.deviceReset := (if_pos quorate).trans (if_pos limit)

/-- Any other tick there does what a tick that is not due does. -/
theorem State.takeAuthorization_of_below (below : ¬(s.quorate = true ∧ 4096 ≤ s.device.authorization + 1)) :
    s.takeAuthorization = { s with due := { s.due with authorization := false }, device := s.deviceTick } := by
  by_cases quorate : s.quorate = true
  · have room : s.device.authorization + 1 < 4096 := Nat.lt_of_not_le fun limit => below ⟨quorate, limit⟩
    rw [State.deviceTick_of_advance quorate room]
    exact (if_pos quorate).trans (if_neg (Nat.not_le.2 room))
  · rw [State.deviceTick_of_stay (.inl quorate)]
    exact if_neg quorate

theorem State.baseTick_of_authorization (due : s.due = { Due.none with authorization := true }) :
    s.baseTick =
      if s.quorate = true ∧ 4096 ≤ s.device.authorization + 1 then s.takeAuthorization else s.takeAuthorization.baseTick := by
  have settled : s.settleShares = s :=
    State.settleShares_of_nothing_due (by simp [due, Due.none]) (by simp [due, Due.none]) (by simp [due, Due.none])
  have atDeviceControl : s.baseTick =
      if s.quorate = true ∧ 4096 ≤ s.device.authorization + 1 then s.deviceReset else s.takeAuthorization.deliverTick := by
    simp only [State.baseTick, settled, due, if_true, Bool.and_eq_true, decide_eq_true_eq, Config.authorizationLimit]
  rw [atDeviceControl]
  split
  · next limit => exact (State.takeAuthorization_of_limit limit.1 limit.2).symm
  · next below =>
    have none : s.takeAuthorization.due = Due.none := by
      rw [State.takeAuthorization_of_below below, due]
      rfl
    exact (State.baseTick_of_nothing_due none).symm

/-- A row of the last tick taken ahead of the tick that comes due next leaves that tick as complete as it was. -/
theorem exec_baseTick_congr (released : s.porAsserted = false) (complete : s.time.prescale ≤ s.time.count + 1)
    (same : s.baseTick = t.baseTick) (porAsserted : t.porAsserted = s.porAsserted := by simp)
    (time : t.time = s.time := by simp) : exec .baseTick s = exec .baseTick t := by
  rw [exec_baseTick_of_complete released complete, exec_baseTick_of_complete (porAsserted.trans released) (time ▸ complete), same]

theorem exec_lifetimeExpiry_of_due {i : SlotId} (released : s.porAsserted = false) (due : i ∈ s.due.slots) :
    exec (.lifetimeExpiry i) s = .next (s.takeLifetime i) :=
  (State.unlessPowerOn_of_released released _).trans (congrArg _ (if_pos due))

theorem exec_coolDownExpiry_of_due {p : Port} (released : s.porAsserted = false) (due : p ∈ s.due.ports) :
    exec (.coolDownExpiry p) s = .next s.takeCoolDowns :=
  (State.unlessPowerOn_of_released released _).trans (congrArg _ (if_pos due))

theorem exec_authorizationExpiry_of_due (released : s.porAsserted = false) (due : s.due.authorization = true) :
    exec .authorizationExpiry s = .next s.takeAuthorization :=
  (State.unlessPowerOn_of_released released _).trans (congrArg _ (if_pos due))

/-- A next state is the one the row answers. -/
theorem next_injective {u v : State} {x : Host.Outcome State Fault Refusal} (h : x = .next u) (k : x = .next v) : v = u := by
  rw [h] at k
  cases k
  rfl

end

/-- Settles O50: the tick's own records by the `State.deliverTick` lemmas; a share still due by the `State.baseTick_of_…`
lemmas. -/
theorem tickAdvancesEveryCountdown : Obligations.TickAdvancesEveryCountdown := by
  intro s released
  refine ⟨fun before => ⟨exec_refclkCycle_of_before released before, exec_baseTick_of_before released before⟩,
    fun complete => ?_, fun complete none => ?_, fun complete => ⟨fun i rest t due once h => ?_, fun l t slots due h => ?_,
      fun p t slots locks due h => ?_, fun t due h => ?_⟩⟩
  · rw [exec_refclkCycle_of_complete released complete, exec_baseTick_of_complete released complete]
  · refine ⟨s.deliverTick, ?_, rfl, s.deliverTick_slots_get, State.deliverTick_locks_of_running, ?_,
      State.deliverTick_ports_of_running, ?_, fun quorate => State.deviceTick_of_advance (State.quorate_iff.2 quorate), ?_,
      fun i => State.mem_dueNow_slots, fun l => State.mem_dueNow_locks, fun p => State.mem_dueNow_ports,
      State.dueNow_authorization_iff, rfl⟩
    · rw [exec_baseTick_of_complete released complete, State.baseTick_of_nothing_due none]
    · exact fun ⟨l, ends⟩ => State.deliverTick_locks_of_ending (l := l) (State.mem_dueNow_locks.2 ends)
    · exact fun ⟨p, ends⟩ => State.deliverTick_ports_of_ending (p := p) (State.mem_dueNow_ports.2 ends)
    · exact fun stays => State.deviceTick_of_stay (stays.imp_left (mt State.quorate_iff.1))
  · rw [next_injective (exec_lifetimeExpiry_of_due released (by simp [due])) h]
    exact exec_baseTick_congr released complete (State.baseTick_of_slot due once)
  · rw [next_injective (exec_leaseExpiry_of_due released due) h]
    exact exec_baseTick_congr released complete (State.baseTick_of_leases slots due)
  · rw [next_injective (exec_coolDownExpiry_of_due released due) h]
    exact exec_baseTick_congr released complete (State.baseTick_of_coolDowns slots locks due)
  · rw [next_injective (exec_authorizationExpiry_of_due released (by rw [due])) h]
    have same := State.baseTick_of_authorization due
    simp only [State.quorate_iff, and_assoc] at same
    split
    · next limit => rw [exec_baseTick_of_complete released complete, same, if_pos limit]
    · next below =>
      rw [if_neg below] at same
      refine exec_baseTick_congr released complete same (time := ?_)
      rw [State.takeAuthorization_of_below (by rwa [State.quorate_iff, and_assoc])]
end Sys2Proof.Machine
end

section
/-! What the expiry of a slot makes of channels, event units, delivery queues and the slot pool (R120, R92). -/

namespace Sys2Proof.Machine

/-! ### Counting at several ports (R26) -/

/-- A subscription record with one more counted expired. -/
def Subscription.countExpired (b : Subscription) : Subscription := { b with expired := saturate b.expired }

/-- Subscription records with one more counted expired at port `p`. -/
def countExpiredAt (subs : PerPort (Option Subscription)) (p : Port) : PerPort (Option Subscription) :=
  subs.modify p (Option.map Subscription.countExpired)

theorem countExpiredAt_get (subs : PerPort (Option Subscription)) (p q : Port) :
    (countExpiredAt subs p).get q = if q = p then (subs.get q).map Subscription.countExpired else subs.get q := by
  rw [countExpiredAt, PerPort.get_modify]
  split
  · next same => rw [same]
  · rfl

/-- Each port of a list that names none twice is counted once. -/
theorem countExpiredAll_get {ps : List Port} (once : ps.Nodup) (subs : PerPort (Option Subscription)) (q : Port) :
    (ps.foldl countExpiredAt subs).get q = if q ∈ ps then (subs.get q).map Subscription.countExpired else subs.get q := by
  induction ps generalizing subs with
  | nil => simp
  | cons p ps ih =>
    obtain ⟨absent, once⟩ := List.nodup_cons.1 once
    rw [List.foldl_cons, ih once, countExpiredAt_get]
    by_cases same : q = p
    · simp [same, absent]
    · simp [same]

/-- A channel with one more counted expired at each port of a list. -/
def Channel.countExpired (c : Channel) (ps : List Port) : Channel :=
  { c with defn := c.defn.map fun d => { d with subs := ps.foldl countExpiredAt d.subs } }

@[simp] theorem Channel.countExpired_nil (c : Channel) : c.countExpired [] = c := by
  cases c with
  | mk defn seq frozen => cases defn <;> rfl

theorem Channel.countExpired_append (c : Channel) (ps qs : List Port) :
    c.countExpired (ps ++ qs) = (c.countExpired ps).countExpired qs := by
  cases c with
  | mk defn seq frozen => cases defn <;> simp [Channel.countExpired]

section
variable (s : State) (i : SlotId) (ch : ChannelId)

theorem State.countExpired_channels_get (p : Port) (c : ChannelId) :
    (s.countExpired p ch).channels.get c = if c = ch then (s.channels.get c).countExpired [p] else s.channels.get c := by
  refine (Table.get_modify ..).trans ?_
  split
  · next same =>
    subst same
    rfl
  · rfl

theorem State.countExpired_events_get (p q : Port) :
    (s.countExpired p ch).events.get q = if q = p then (s.events.get q).raise .expired else s.events.get q :=
  State.raise_events_get ..

theorem State.countAll_channels_get (ps : List Port) (c : ChannelId) :
    (ps.foldl (fun t p => t.countExpired p ch) s).channels.get c =
      if c = ch then (s.channels.get c).countExpired ps else s.channels.get c := by
  induction ps generalizing s with
  | nil => simp
  | cons p ps ih =>
    have both := (s.channels.get c).countExpired_append [p] ps
    rw [List.foldl_cons, ih, State.countExpired_channels_get]
    split
    · exact both.symm
    · rfl

theorem State.countAll_events_get (ps : List Port) (q : Port) :
    (ps.foldl (fun t p => t.countExpired p ch) s).events.get q =
      if q ∈ ps then (s.events.get q).raise .expired else s.events.get q := by
  induction ps generalizing s with
  | nil => simp
  | cons p ps ih =>
    rw [List.foldl_cons, ih, State.countExpired_events_get]
    by_cases same : q = p <;> simp [same]

/-! ### Entries of the slot (R120, R71) -/

/-- The delivery queue of port `p` has an entry of slot `i`. -/
def State.lists (p : Port) : Bool := (s.queues.get p).any fun e => decide (e.slot = i)

/-- Entries of slot `i` in the delivery queue of port `p`. -/
def State.listings (p : Port) : Nat := (s.queues.get p).countP fun e => decide (e.slot = i)

theorem State.expireEntries_channels_get (p : Port) (c : ChannelId) :
    (s.expireEntries i ch p).channels.get c =
      if c = ch then (s.channels.get c).countExpired ([p].filter (s.lists i)) else s.channels.get c := by
  unfold State.expireEntries
  split
  · next listed =>
    have kept : [p].filter (s.lists i) = [p] := by simp [State.lists, listed]
    simp only [State.countExpired_channels_get, kept, State.dropEntries_frame]
  · next listed =>
    have kept : [p].filter (s.lists i) = [] := by simp [State.lists, listed]
    rw [kept, Channel.countExpired_nil, ite_self]

theorem State.expireEntries_events_get (p q : Port) :
    (s.expireEntries i ch p).events.get q =
      if q ∈ [p].filter (s.lists i) then (s.events.get q).raise .expired else s.events.get q := by
  unfold State.expireEntries
  split
  · next listed =>
    have kept : [p].filter (s.lists i) = [p] := by simp [State.lists, listed]
    simp only [State.countExpired_events_get, kept, State.dropEntries_frame, List.mem_singleton]
  · next listed =>
    have kept : [p].filter (s.lists i) = [] := by simp [State.lists, listed]
    simp [kept]

/-- The other ports' queues list the slot as before. -/
theorem State.expireEntries_lists {p q : Port} (other : q ≠ p) : (s.expireEntries i ch p).lists i q = s.lists i q := by
  rw [State.lists, State.expireEntries_queues, if_neg other, State.lists]

theorem State.expireEntries_listings {p q : Port} (other : q ≠ p) :
    (s.expireEntries i ch p).listings i q = s.listings i q := by
  rw [State.listings, State.expireEntries_queues, if_neg other, State.listings]

theorem State.expireAll_queues_get (ps : List Port) (q : Port) :
    (ps.foldl (fun t p => t.expireEntries i ch p) s).queues.get q =
      if q ∈ ps then (s.queues.get q).filter fun e => !decide (e.slot = i) else s.queues.get q := by
  induction ps generalizing s with
  | nil => simp
  | cons p ps ih =>
    rw [List.foldl_cons, ih, State.expireEntries_queues]
    by_cases same : q = p <;> simp [same]

/-- What the expiry counts and raises at a row of ports, none twice: once at each port whose queue lists the slot. -/
theorem State.expireAll_told {ps : List Port} (once : ps.Nodup) :
    (∀ c, (ps.foldl (fun t p => t.expireEntries i ch p) s).channels.get c =
      if c = ch then (s.channels.get c).countExpired (ps.filter (s.lists i)) else s.channels.get c) ∧
    ∀ q, (ps.foldl (fun t p => t.expireEntries i ch p) s).events.get q =
      if q ∈ ps.filter (s.lists i) then (s.events.get q).raise .expired else s.events.get q := by
  induction ps generalizing s with
  | nil => simp
  | cons p ps ih =>
    obtain ⟨absent, once⟩ := List.nodup_cons.1 once
    obtain ⟨channels, events⟩ := ih (s.expireEntries i ch p) once
    have rest : ps.filter ((s.expireEntries i ch p).lists i) = ps.filter (s.lists i) :=
      List.filter_congr fun q hq => s.expireEntries_lists i ch (ne_of_mem_of_not_mem hq absent)
    have split : (p :: ps).filter (s.lists i) = [p].filter (s.lists i) ++ ps.filter (s.lists i) :=
      List.filter_append (l₁ := [p]) ps
    rw [split]
    refine ⟨fun c => ?_, fun q => ?_⟩
    · rw [List.foldl_cons, channels, rest, State.expireEntries_channels_get, Channel.countExpired_append]
      split <;> rfl
    · rw [List.foldl_cons, events, rest, State.expireEntries_events_get]
      by_cases first : q ∈ [p].filter (s.lists i) <;> simp [first]

/-! ### References of the slot (R5) -/

theorem State.expireEntries_pool (p : Port) :
    (s.releaseAll (List.replicate (s.listings i p) i)).SamePool (s.expireEntries i ch p) := by
  have slots : ((s.queues.get p).filter fun e => decide (e.slot = i)).map (fun e => e.slot) =
      List.replicate (s.listings i p) i := by
    rw [List.eq_replicate_iff, List.length_map, ← List.countP_eq_length_filter]
    refine ⟨rfl, fun j hj => ?_⟩
    obtain ⟨e, he, rfl⟩ := List.mem_map.1 hj
    exact of_decide_eq_true (List.mem_filter.1 he).2
  unfold State.expireEntries
  split
  · rw [← slots]
    exact State.samePool_trans (State.samePool_releaseAll _ (t := s.setQueue p _) ⟨rfl, rfl, rfl, rfl⟩) ⟨rfl, rfl, rfl, rfl⟩
  · next listed =>
    have none : s.listings i p = 0 := List.countP_eq_zero.2 fun e he k => listed (List.any_eq_true.2 ⟨e, he, k⟩)
    rw [none]
    exact s.samePool_refl

theorem State.expireAll_pool {ps : List Port} (once : ps.Nodup) {t : State} (h : t.SamePool s) :
    (t.releaseAll (List.replicate (ps.map fun p => s.listings i p).sum i)).SamePool
      (ps.foldl (fun t p => t.expireEntries i ch p) s) := by
  induction ps generalizing s t with
  | nil => exact h
  | cons p ps ih =>
    obtain ⟨absent, once⟩ := List.nodup_cons.1 once
    have rest : (ps.map fun q => (s.expireEntries i ch p).listings i q) = ps.map fun q => s.listings i q :=
      List.map_congr_left fun q hq => s.expireEntries_listings i ch (ne_of_mem_of_not_mem hq absent)
    have first := State.samePool_trans (State.samePool_releaseAll (List.replicate (s.listings i p) i) h)
      (s.expireEntries_pool i ch p)
    rw [List.map_cons, List.sum_cons, ← List.replicate_append_replicate, State.releaseAll_append, List.foldl_cons, ← rest]
    exact ih _ once first

/-! ### The current value (R92) -/

/-- Slot `i` is the current value of channel `ch`. -/
def State.isCurrent : Bool := (s.defn? ch).any fun d => decide (d.current = some i)

/-- The NEW flag of port `p` is set for the value that is slot `i`. -/
def State.unreads (p : Port) : Bool := s.isCurrent i ch && (s.sub? ch p).any fun b => b.new

end

/-- A channel's definition after slot `i` has been withdrawn as its current value. -/
def ChannelDef.withdraw (d : ChannelDef) (i : SlotId) : ChannelDef :=
  if d.current = some i then
    { d with
      subs := (d.unread.foldl countExpiredAt d.subs).map (Option.map fun b => { b with new := false }), current := none }
  else d

/-- A channel's definition after the expiry of slot `i`: counted at the ports of a list, whose queues listed it, and the slot
withdrawn as current value. -/
def ChannelDef.expire (d : ChannelDef) (i : SlotId) (ps : List Port) : ChannelDef :=
  ({ d with subs := ps.foldl countExpiredAt d.subs } : ChannelDef).withdraw i

section
variable (d : ChannelDef) (i : SlotId)

theorem ChannelDef.mem_unread (p : Port) : p ∈ d.unread ↔ ((d.subs.get p).any fun b => b.new) = true := by
  simp [ChannelDef.unread, Port.mem_all]

theorem ChannelDef.nodup_unread : d.unread.Nodup := Port.nodup_all.filter _

/-- A withdrawal touches the current value and the subscription records. -/
theorem ChannelDef.expire_eq (ps : List Port) :
    d.expire i ps = { d with current := if d.current = some i then none else d.current, subs := (d.expire i ps).subs } := by
  by_cases current : d.current = some i <;> simp [ChannelDef.expire, ChannelDef.withdraw, current]

theorem ChannelDef.withdraw_subs_get (p : Port) :
    (d.withdraw i).subs.get p = (d.subs.get p).map fun b =>
      { b with
        expired := if d.current = some i ∧ b.new = true then saturate b.expired else b.expired
        new := if d.current = some i then false else b.new } := by
  unfold ChannelDef.withdraw
  split
  · next current =>
    rw [PerPort.get_map, countExpiredAll_get d.nodup_unread]
    simp only [d.mem_unread, current, true_and]
    cases d.subs.get p with
    | none => simp
    | some b => cases new : b.new <;> simp [Subscription.countExpired, new]
  · next other => simp [other]

/-- The record of port `p`: counted once for its entries, and once for a value that it had not read (R26, R92). -/
theorem ChannelDef.expire_subs_get {ps : List Port} (once : ps.Nodup) (p : Port) :
    (d.expire i ps).subs.get p = (d.subs.get p).map fun b =>
      let n := if p ∈ ps then saturate b.expired else b.expired
      { b with
        expired := if d.current = some i ∧ b.new = true then saturate n else n
        new := if d.current = some i then false else b.new } := by
  rw [ChannelDef.expire, ChannelDef.withdraw_subs_get, countExpiredAll_get once]
  by_cases listed : p ∈ ps
  · rw [if_pos listed, Option.map_map]
    simp only [if_pos listed]
    rfl
  · simp only [if_neg listed]

end

section
variable {s : State} {i : SlotId} {ch : ChannelId} {d : ChannelDef}

theorem State.isCurrent_of_defn (defined : s.defn? ch = some d) : s.isCurrent i ch = decide (d.current = some i) := by
  rw [State.isCurrent, defined, Option.any_some]

theorem State.withdrawCurrent_of_current (defined : s.defn? ch = some d) (current : d.current = some i) :
    s.withdrawCurrent ch i =
      ((d.unread.foldl (fun t q => t.countExpired q ch) s).updDefn ch fun e =>
        { e with subs := e.subs.map (Option.map fun b => { b with new := false }), current := none }).release i := by
  simp only [State.withdrawCurrent, defined, if_pos current]

theorem State.withdrawCurrent_of_not (other : s.isCurrent i ch = false) : s.withdrawCurrent ch i = s := by
  unfold State.withdrawCurrent
  cases defined : s.defn? ch with
  | none => rfl
  | some d =>
    rw [State.isCurrent_of_defn defined] at other
    exact if_neg (of_decide_eq_false other)

theorem State.unreads_of_current (defined : s.defn? ch = some d) (current : d.current = some i) (p : Port) :
    s.unreads i ch p = true ↔ p ∈ d.unread := by
  simp [State.unreads, State.isCurrent_of_defn defined, current, State.sub?, defined, ChannelDef.mem_unread]

/-- What the expiry of slot `i` makes of the definition: its current value is gone if it was the slot (R92). -/
theorem State.expire_of_defn (defined : s.defn? ch = some d) (ps : List Port) :
    d.expire i ps =
      { d with current := if s.isCurrent i ch then none else d.current, subs := (d.expire i ps).subs } := by
  simp only [State.isCurrent_of_defn defined, decide_eq_true_eq]
  exact d.expire_eq i ps

/-- And of port `p`'s subscription record (R26). -/
theorem State.expire_subs_get (defined : s.defn? ch = some d) (p : Port) :
    (d.expire i (Port.all.filter (s.lists i))).subs.get p = (d.subs.get p).map fun b =>
      let n := if s.lists i p then saturate b.expired else b.expired
      { b with
        expired := if s.unreads i ch p then saturate n else n
        new := if s.isCurrent i ch then false else b.new } := by
  rw [ChannelDef.expire_subs_get _ _ (Port.nodup_all.filter _)]
  refine Option.map_congr fun b present => ?_
  have record : s.sub? ch p = some b := by rw [State.sub?, defined, Option.bind_some, present]
  have listed : p ∈ Port.all.filter (s.lists i) ↔ s.lists i p = true := by simp [Port.mem_all]
  have unread : s.unreads i ch p = true ↔ d.current = some i ∧ b.new = true := by
    simp [State.unreads, State.isCurrent_of_defn defined, record]
  simp only [listed, unread, State.isCurrent_of_defn defined, decide_eq_true_eq]

variable (s i ch)

/-- Slot `i` is the current value of a defined channel, or its withdrawal changes nothing. -/
theorem State.isCurrent_cases : (∃ d, s.defn? ch = some d ∧ d.current = some i) ∨ s.isCurrent i ch = false := by
  cases defined : s.defn? ch with
  | none => exact .inr (by rw [State.isCurrent, defined, Option.any_none])
  | some d =>
    rw [State.isCurrent_of_defn defined]
    by_cases current : d.current = some i
    · exact .inl ⟨d, rfl, current⟩
    · exact .inr (decide_eq_false current)

theorem State.withdrawCurrent_channels_get (c : ChannelId) :
    (s.withdrawCurrent ch i).channels.get c =
      if c = ch then { s.channels.get c with defn := (s.channels.get c).defn.map fun d => d.withdraw i }
      else s.channels.get c := by
  rcases s.isCurrent_cases i ch with ⟨d, defined, current⟩ | other
  · have record : (s.channels.get ch).defn = some d := defined
    rw [State.withdrawCurrent_of_current defined current]
    simp only [State.release_frame, State.updDefn_channels, Table.get_modify, State.countAll_channels_get]
    split
    · next same => simp [same, Channel.countExpired, record, ChannelDef.withdraw, current]
    · rfl
  · rw [State.withdrawCurrent_of_not other]
    split
    · next same =>
      subst same
      have kept : (s.channels.get c).defn.map (fun d => d.withdraw i) = (s.channels.get c).defn := by
        cases defined : (s.channels.get c).defn with
        | none => rfl
        | some d =>
          rw [State.isCurrent_of_defn defined] at other
          exact congrArg some (if_neg (of_decide_eq_false other))
      rw [kept]
    · rfl

theorem State.withdrawCurrent_events_get (q : Port) :
    (s.withdrawCurrent ch i).events.get q = if s.unreads i ch q then (s.events.get q).raise .expired else s.events.get q := by
  rcases s.isCurrent_cases i ch with ⟨d, defined, current⟩ | other
  · rw [State.withdrawCurrent_of_current defined current]
    simp only [State.release_frame, State.updDefn_events, State.countAll_events_get, State.unreads_of_current defined current]
  · rw [State.withdrawCurrent_of_not other, State.unreads, other]
    rfl

theorem State.withdrawCurrent_pool :
    (s.releaseAll (List.replicate (if s.isCurrent i ch then 1 else 0) i)).SamePool (s.withdrawCurrent ch i) := by
  rcases s.isCurrent_cases i ch with ⟨d, defined, current⟩ | other
  · rw [State.withdrawCurrent_of_current defined current, State.isCurrent_of_defn defined, decide_eq_true current]
    refine State.samePool_release ?_ i
    simp [State.SamePool]
  · rw [State.withdrawCurrent_of_not other, other]
    exact s.samePool_refl

/-! ### The expiry of a SPREADING or LIVE slot (R120) -/

section
variable (m : Message)

/-- The slot has become EXPIRED, its lifetime has ended; nothing has been withdrawn yet. -/
def State.expiring : State :=
  { s with slots := s.slots.set i { s.slots.get i with use := .message { m with phase := .expired, lifetime := none } } }

/-- How many references an expiry releases: one for each entry, one for a current value. -/
def State.withdrawals : Nat :=
  s.listings i .A + s.listings i .B + s.listings i .C + s.listings i .D + if s.isCurrent i ch then 1 else 0

/-- The entries are withdrawn first, the current value after them. -/
theorem State.expireLive_eq :
    s.expireLive i m =
      (Port.all.foldl (fun t p => t.expireEntries i m.channel p) (s.expiring i m)).withdrawCurrent m.channel i := rfl

theorem State.expireLive_queues_get (p : Port) :
    (s.expireLive i m).queues.get p = (s.queues.get p).filter fun e => decide (e.slot ≠ i) := by
  simp only [State.expireLive_eq, State.withdrawCurrent_frame, State.expireAll_queues_get, if_pos (Port.mem_all p)]
  simp [State.expiring]

/-- The queues list the slot as before. -/
theorem State.expiring_lists : (s.expiring i m).lists i = s.lists i := rfl

/-- What the expiry of the entries leaves of the channel's definition. -/
theorem State.expireAll_defn? :
    (Port.all.foldl (fun t p => t.expireEntries i ch p) (s.expiring i m)).defn? ch =
      (s.defn? ch).map fun d => { d with subs := (Port.all.filter (s.lists i)).foldl countExpiredAt d.subs } := by
  have told := ((s.expiring i m).expireAll_told i ch Port.nodup_all).1 ch
  rw [if_pos rfl] at told
  exact congrArg Channel.defn told

/-- It names its current value as before. -/
theorem State.expireAll_isCurrent :
    (Port.all.foldl (fun t p => t.expireEntries i ch p) (s.expiring i m)).isCurrent i ch = s.isCurrent i ch := by
  rw [State.isCurrent, State.expireAll_defn?, Option.any_map, State.isCurrent]

/-- And each port has its NEW flag as before. -/
theorem State.expireAll_unreads (p : Port) :
    (Port.all.foldl (fun t p => t.expireEntries i ch p) (s.expiring i m)).unreads i ch p = s.unreads i ch p := by
  rw [State.unreads, State.expireAll_isCurrent, State.unreads, State.sub?, State.expireAll_defn?, State.sub?]
  cases s.defn? ch with
  | none => rfl
  | some d =>
    simp only [Option.map_some, Option.bind_some, countExpiredAll_get (Port.nodup_all.filter _)]
    split
    · rw [Option.any_map]
      rfl
    · rfl

theorem State.expireLive_channels_get (c : ChannelId) :
    (s.expireLive i m).channels.get c =
      if c = m.channel then
        { s.channels.get c with defn := (s.channels.get c).defn.map fun d => d.expire i (Port.all.filter (s.lists i)) }
      else s.channels.get c := by
  have told := ((s.expiring i m).expireAll_told i m.channel Port.nodup_all).1 c
  rw [State.expireLive_eq, State.withdrawCurrent_channels_get, told]
  split
  · simp only [Channel.countExpired, Option.map_map]
    rfl
  · rfl

/-- EXPIRED is raised where an entry is removed or an unread value withdrawn. -/
theorem State.expireLive_events_get (p : Port) :
    (s.expireLive i m).events.get p =
      if s.lists i p || s.unreads i m.channel p then (s.events.get p).raise .expired else s.events.get p := by
  have told := ((s.expiring i m).expireAll_told i m.channel Port.nodup_all).2 p
  rw [State.expireLive_eq, State.withdrawCurrent_events_get, told, State.expireAll_unreads, State.expiring_lists]
  simp only [List.mem_filter, Port.mem_all, true_and]
  cases s.lists i p <;> cases s.unreads i m.channel p <;> simp [State.expiring]

theorem State.expireLive_pool :
    ((s.expiring i m).releaseAll (List.replicate (s.withdrawals i m.channel) i)).SamePool (s.expireLive i m) := by
  have entries := (s.expiring i m).expireAll_pool i m.channel Port.nodup_all (State.samePool_refl _)
  have value := (Port.all.foldl (fun t p => t.expireEntries i m.channel p) (s.expiring i m)).withdrawCurrent_pool i m.channel
  rw [State.expireAll_isCurrent] at value
  have sum : s.withdrawals i m.channel =
      (Port.all.map fun p => (s.expiring i m).listings i p).sum + if s.isCurrent i m.channel then 1 else 0 := by
    simp [State.withdrawals, Port.all, State.listings, State.expiring, Nat.add_assoc]
  rw [sum, ← List.replicate_append_replicate, State.releaseAll_append, State.expireLive_eq]
  exact State.samePool_trans (State.samePool_releaseAll _ entries) value

end

end

end Sys2Proof.Machine
end

section
/-! The row LIFETIME_EXPIRY (R120, R63, R64) against its statement. -/

namespace Sys2Proof.Machine

/-! ### A share that is taken (log 7) -/

/-- The expiry of slot `i` is due no more. -/
def State.notDue (s : State) (i : SlotId) : State :=
  { s with due := { s.due with slots := s.due.slots.filter fun j => decide (j ≠ i) } }

section
variable {s : State} {i : SlotId} {m : Message}

theorem State.takeLifetime_of_message (message : s.message? i = some m) (lifetime : m.lifetime.isSome = true) :
    s.takeLifetime i = (s.notDue i).expireSlot i m := by
  have unchanged : (s.notDue i).message? i = some m := message
  unfold State.notDue at unchanged ⊢
  simp only [State.takeLifetime, unchanged, if_pos lifetime]

/-! ### A PENDING slot (R63) -/

/-- The one request of the slot leaves the publish queue with its record, and its reference is released. -/
theorem State.expirePending_eq {r : Request} {before after : List Request} (message : s.message? i = some m)
    (queue : s.publishQueue = before ++ r :: after) (slot : r.slot = i) (others : ∀ x ∈ before ++ after, x.slot ≠ i) :
    s.expirePending i =
      (({ s with publishQueue := before ++ after } : State).retire r m .expired Counts.zero).release i := by
  subst slot
  have otherwise : ∀ x ∈ before ++ after, (!decide (x.slot = r.slot)) = true := fun x hx => by simp [others x hx]
  have kept : s.publishQueue.filter (fun x => !decide (x.slot = r.slot)) = before ++ after := by
    rw [queue, List.filter_append, List.filter_cons_of_neg (by simp), ← List.filter_append]
    exact List.filter_eq_self.2 otherwise
  have removed : s.publishQueue.filter (fun x => decide (x.slot = r.slot)) = [r] := by
    have none : ∀ l : List Request, (∀ x ∈ l, x.slot ≠ r.slot) → l.filter (fun x => decide (x.slot = r.slot)) = [] := fun l hl =>
      List.filter_eq_nil_iff.2 fun x hx => by simpa using hl x hx
    rw [queue, List.filter_append, List.filter_cons_of_pos (by simp),
      none before fun x hx => others x (List.mem_append_left _ hx),
      none after fun x hx => others x (List.mem_append_right _ hx), List.nil_append]
  have found : ({ s with publishQueue := before ++ after } : State).message? r.slot = some m := message
  simp only [State.expirePending, kept, removed, List.foldl_cons, List.foldl_nil, State.withdraw, found]

/-! ### A SPREADING or LIVE slot (R64, R120) -/

/-- The state from which a SPREADING or LIVE slot expires: due no more, and the engine, if it spreads the slot, at END with its
mark. -/
def State.beforeExpiry (s : State) (i : SlotId) (m : Message) : State :=
  { s.notDue i with
    engine := s.engine.map fun f =>
      if m.phase = .spreading ∧ f.request.slot = i then { f with expired := true, cursor := .finish } else f }

theorem State.takeLifetime_of_delivered (message : s.message? i = some m) (lifetime : m.lifetime.isSome = true)
    (phase : m.phase = .spreading ∨ m.phase = .live) : s.takeLifetime i = (s.beforeExpiry i m).expireLive i m := by
  rw [State.takeLifetime_of_message message lifetime, State.expireSlot]
  rcases phase with spreading | live
  · simp only [spreading, State.markExpired, State.beforeExpiry, true_and]
    rfl
  · have unmarked : s.beforeExpiry i m = s.notDue i := by
      simp only [State.beforeExpiry, live, reduceCtorEq, false_and, if_false, Option.map_id']
      rfl
    simp only [live, unmarked]

/-- The expiry touches delivery queues, the slot pool, channels and event units; the engine has been marked before it. -/
theorem State.expireLive_fields (s : State) (i : SlotId) (m : Message) :
    s.expireLive i m =
      { s with
        queues := (s.expireLive i m).queues, slots := (s.expireLive i m).slots, freeList := (s.expireLive i m).freeList
        ports := (s.expireLive i m).ports, due := (s.expireLive i m).due, channels := (s.expireLive i m).channels
        events := (s.expireLive i m).events, engine := (s.expireLive i m).engine } := by
  have frame := s.expireLive_frame i m
  generalize s.expireLive i m = t at frame ⊢
  cases t
  simp_all

/-- Releases of one slot leave it FREE or with its fields. -/
theorem State.releaseAll_use (s : State) (i : SlotId) (k : Nat) :
    ((s.releaseAll (List.replicate k i)).slots.get i).use = .free ∨
      ((s.releaseAll (List.replicate k i)).slots.get i).use = (s.slots.get i).use := by
  induction k generalizing s with
  | zero => exact .inr rfl
  | succ k ih =>
    rw [List.replicate_succ, State.releaseAll_cons]
    rcases ih (s.release i) with free | same
    · exact .inl free
    · rw [same]
      exact (s.release_use i i).symm.imp And.right id

/-- And leave every other slot's record. -/
theorem State.releaseAll_slots_other (s : State) {i j : SlotId} (other : j ≠ i) (k : Nat) :
    (s.releaseAll (List.replicate k i)).slots.get j = s.slots.get j := by
  induction k generalizing s with
  | zero => rfl
  | succ k ih => rw [List.replicate_succ, State.releaseAll_cons, ih, State.release_slots_other s other]

/-! ### Records that the statement writes out -/

theorem Channel.mapDefn_of_unused {c : Channel} (unused : c.defn = none) (f : ChannelDef → ChannelDef) :
    { c with defn := c.defn.map f } = c := by
  cases c
  simp_all

theorem Channel.mapDefn_of_defn {c : Channel} {d : ChannelDef} (defined : c.defn = some d) (f : ChannelDef → ChannelDef) :
    { c with defn := c.defn.map f } = { c with defn := some (f d) } := by
  rw [defined, Option.map_some]

theorem EventUnit.raise_expired_if (u : EventUnit) (b : Bool) :
    (if b then u.raise .expired else u) = { u with pending := u.pending ||| if b then 256#12 else 0#12 } := by
  cases b <;> simp [EventUnit.raise, Event.number, BitVec.twoPow]

end

/-- Settles O51: a PENDING slot by `State.expirePending_eq`; a SPREADING or LIVE one by the `State.expireLive_…` lemmas, from
`State.beforeExpiry`. -/
theorem lifetimeExpiryWithdrawsTheMessage : Obligations.LifetimeExpiryWithdrawsTheMessage := by
  intro s i m n released due message lifetime
  have runs : m.lifetime.isSome = true := by rw [lifetime, Option.isSome_some]
  refine ⟨fun r before after pending queue slot others => ?_, fun phase => ?_⟩
  · have expired : s.takeLifetime i = (s.notDue i).expirePending i := by
      rw [State.takeLifetime_of_message message runs, State.expireSlot, pending]
    rw [exec_lifetimeExpiry_of_due released due, expired,
      State.expirePending_eq (s := s.notDue i) message queue slot others]
    rfl
  · have taken := State.takeLifetime_of_delivered message runs phase
    refine ⟨s.takeLifetime i, exec_lifetimeExpiry_of_due released due, ?_⟩
    rw [taken]
    intro gone withdrawn unread more expiring entries released
    have unmarked : expiring.SamePool ((s.beforeExpiry i m).expiring i m) := ⟨rfl, rfl, rfl, rfl⟩
    have pool : released.SamePool ((s.beforeExpiry i m).expireLive i m) :=
      State.samePool_trans (State.samePool_releaseAll _ unmarked) ((s.beforeExpiry i m).expireLive_pool i m)
    obtain ⟨slots, freeList, ports, left⟩ := pool
    have record : expiring.slots.get i = { s.slots.get i with use := .message { m with phase := .expired, lifetime := none } } :=
      Table.get_set_same ..
    have channels := (s.beforeExpiry i m).expireLive_channels_get i m
    refine ⟨(s.beforeExpiry i m).expireLive_queues_get i m, slots, freeList, ports, left, ?_, fun j other => ?_, ?_, ?_, ?_,
      ?_, ?_⟩
    · rw [slots]
      have use := expiring.releaseAll_use i (entries .A + entries .B + entries .C + entries .D + if withdrawn then 1 else 0)
      rwa [record] at use
    · rw [slots]
      exact (expiring.releaseAll_slots_other other _).trans (Table.get_set_other _ _ other)
    · simp only [State.expireLive_frame, State.beforeExpiry]
    · intro ch kept
      rw [channels]
      split
      · next same =>
        subst same
        exact Channel.mapDefn_of_unused (kept.resolve_left fun other => other rfl) _
      · rfl
    · intro d defined
      refine ⟨(d.expire i (Port.all.filter (s.lists i))).subs, ?_, fun p => ?_⟩
      · rw [channels, if_pos rfl]
        refine (Channel.mapDefn_of_defn defined _).trans ?_
        exact congrArg (fun x => { s.channels.get m.channel with defn := some x }) (State.expire_of_defn defined _)
      · exact State.expire_subs_get defined p
    · intro p
      rw [State.expireLive_events_get, EventUnit.raise_expired_if]
      rfl
    · exact (s.beforeExpiry i m).expireLive_fields i m

end Sys2Proof.Machine
end

section
/-! ATTACH, DETACH, QUERY_PORT and QUERY_DEVICE, the port-reset input, reports and the two ticks of port contexts and device control,
each against its statement (R126, R127, R136, R155, R134, R128 to R131, R133, R157). -/

namespace Sys2Proof.Machine

/-! ### ATTACH and DETACH (R126, R127) -/

/-- An answer whose success the port context unit has already taken is shown, and nothing is reported. -/
theorem exec_of_scored {s t : State} {p : Port} {a : Words6} {c : Command} {r : Response} {w : Words6} (h : s.issues p c a)
    (e : s.answerTo p a c = { state := t, response := r, results := w, scored := true }) :
    exec (c.row p) s = .next (t.shown p c r w) := by
  rw [exec_row, State.takeCommand_of_issues _ h, e, Answer.post_shown _ p c rfl rfl]

section
variable {s : State} {p : Port} {a : Words6}

/-- ATTACH, accepted: the record and the cause of R126. -/
theorem State.attachAnswer_of_none (h : judge (s.controlChecks .attach p a) = none) :
    s.attachAnswer p a =
      let r := (s.ports.get p).attach a.w0 a.w1.toNat
      { state := (s.updPort p fun _ => r).updWindow p fun w => { w with cause := .none }
        response := .ok
        results :=
          { w0 := toWord r.score, w1 := (s.ports.get p).identity, w2 := toWord (s.ports.get p).account
            w3 := toWord (s.ports.get p).credits }
        scored := true } := by
  obtain ⟨arguments, h⟩ := judge_cons_none h
  obtain ⟨cooling, h⟩ := judge_cons_none h
  obtain ⟨attached, -⟩ := judge_cons_none h
  simp only [State.attachAnswer, if_neg (of_decide_eq_false arguments), if_neg (of_decide_eq_false cooling),
    if_neg (of_decide_eq_false attached)]

/-- DETACH, accepted: the port's score falls, it is purged, it is OFFLINE (R127). -/
theorem State.detachAnswer_of_none (h : judge (s.controlChecks .detach p a) = none) :
    s.detachAnswer p a =
      { state := s.detached p, response := .ok, results := { w0 := toWord ((s.detached p).ports.get p).account }
        scored := true } := by
  have present : s.absence p = none := State.absence_of_portChecks h
  simp only [State.detachAnswer, present]

end

/-- The account that DETACH reports is the one the purge leaves; leaving touches the port's state alone. -/
theorem State.detached_account (s : State) (p : Port) :
    ((s.detached p).ports.get p).account = (((s.lowerScore p).purge p).ports.get p).account := by
  rw [State.detached, State.updPort_ports, PerPort.get_modify, if_pos rfl]

/-- Settles O12: no check refuses, so the answer is that of `State.attachAnswer_of_none`, shown. -/
theorem attachAdmitsThePort : Obligations.AttachAdmitsThePort := by
  intro s p a issued accepted r score t
  exact exec_of_scored (c := .attach) issued (State.attachAnswer_of_none accepted)

/-- Settles O13: no check refuses, so the port is `State.detached`, and the account shown is the purge's. -/
theorem detachPurgesAndLeaves : Obligations.DetachPurgesAndLeaves := by
  intro s p a issued accepted u t v
  have answer := State.detachAnswer_of_none accepted
  have purged : (s.lowerScore p).purge p = t := rfl
  have left : s.detached p = v := rfl
  rw [State.detached_account, purged, left] at answer
  exact exec_of_scored (c := .detach) issued answer

/-! ### QUERY_PORT and QUERY_DEVICE (R136, R155) -/

/-- ARG0 of QUERY_PORT names port `q`: FFFFh the issuing port, 0 to 3 the port of that index (R136). -/
theorem queriedPort?_of_named {p q : Port} {w : Word} (named : w = 0xFFFF ∧ q = p ∨ w.toNat = q.index) :
    queriedPort? p w = some q := by
  rcases named with ⟨any, own⟩ | index
  · rw [queriedPort?, anyWord, if_pos any, own]
  · have other : w ≠ 0xFFFF := by
      rintro rfl
      have := q.index_lt
      rw [← index] at this
      exact absurd this (by decide)
    rw [queriedPort?, anyWord, if_neg other, index, Port.ofIndex?_index]

/-- QUERY_PORT, accepted: page 0, or the other page (R136). -/
theorem State.queryPortAnswer_of_none {s : State} {p q : Port} {a : Words6}
    (h : judge (s.controlChecks .queryPort p a) = none) (named : a.w0 = 0xFFFF ∧ q = p ∨ a.w0.toNat = q.index) :
    s.queryPortAnswer p a = s.answer .ok (if a.w1 = 0 then s.portPage0 q else s.portPage1 q) := by
  obtain ⟨range, -⟩ := judge_cons_none h
  have page : a.w1.toNat ≤ 1 := Nat.le_of_not_lt fun beyond => of_decide_eq_false range (.inr beyond)
  simp only [State.queryPortAnswer, queriedPort?_of_named named]
  by_cases first : a.w1 = 0
  · rw [if_pos first, if_pos first]
  · have second : a.w1 = 1 := by
      have : a.w1.toNat ≠ 0 := fun e => first (BitVec.eq_of_toNat_eq e)
      exact BitVec.eq_of_toNat_eq (Nat.le_antisymm page (Nat.pos_of_ne_zero this))
    rw [if_neg first, if_neg first, if_pos second]

/-- Page 0, with FFFFh for an absent reservation and FFh for an absent wait (R136). -/
theorem State.portPage0_eq (s : State) (q : Port) :
    s.portPage0 q =
      { w0 := bytesWord (s.ports.get q).state.code (s.ports.get q).score
        w1 := (s.ports.get q).identity
        w2 := BitVec.ofNat 16 (s.ports.get q).account
        w3 := BitVec.ofNat 16 (s.ports.get q).quota
        w4 := ((s.reservations.get q).map fun i => BitVec.ofNat 16 i.val).getD 0xFFFF
        w5 := bytesWord (s.ports.get q).credits (((s.waits.get q).map fun l => l.val).getD 0xFF) } := by
  unfold State.portPage0
  cases s.reservations.get q <;> cases s.waits.get q <;> rfl

/-- The confinement level as page 1 shows it: from the score at an ATTACHED port, FFh elsewhere (R129, R136). -/
theorem PortRecord.levelWord_eq (r : PortRecord) :
    ((r.level?.map fun l => toWord l.code).getD 0xFF) =
      if r.state = .attached then (if r.score ≤ 95 then 0 else if r.score ≤ 127 then 1 else 2) else 0xFF := by
  unfold PortRecord.level? levelOf Config.warnedScore Config.restrictedScore
  by_cases attached : r.state = .attached
  · have normal : r.score < 96 ↔ r.score ≤ 95 := Nat.lt_succ_iff
    have warned : r.score < 128 ↔ r.score ≤ 127 := Nat.lt_succ_iff
    simp only [if_pos attached, normal, warned, Option.map_some, Option.getD_some]
    split_ifs <;> rfl
  · simp only [if_neg attached, Option.map_none, Option.getD_none]

/-- Page 1 (R136). -/
theorem State.portPage1_eq (s : State) (q : Port) :
    s.portPage1 q =
      { w0 := BitVec.ofNat 16 (s.ports.get q).coolDown
        w1 := if (s.ports.get q).state = .attached then
            (if (s.ports.get q).score ≤ 95 then 0 else if (s.ports.get q).score ≤ 127 then 1 else 2)
          else 0xFF
        w2 := if (s.ports.get q).vote then 1 else 0
        w3 := BitVec.ofNat 16 (s.windows.get q).cause.code
        w4 := BitVec.ofNat 16 (s.completions.get q).length
        w5 := BitVec.ofNat 16 (s.queues.get q).length } := by
  rw [State.portPage1, ← PortRecord.levelWord_eq]
  cases (s.ports.get q).level? <;> cases (s.ports.get q).vote <;> rfl

/-- What QUERY_DEVICE reports (R155). -/
theorem State.deviceResults_eq (s : State) :
    s.deviceResults =
      { w0 := BitVec.ofNat 16 ((if s.device.state = .run then 1 else 0) + (if s.engine.isSome then 2 else 0) +
          4 * s.device.quorum + 32 * s.voteCount + 256 * s.geometry.slotSize)
        w1 := BitVec.ofNat 16 (s.device.authorization + 4096 * s.publishQueue.length)
        w2 := BitVec.ofNat 16 (s.time.prescale - 1)
        w3 := BitVec.ofNat 16 s.freeList.length
        w4 := BitVec.ofNat 16 s.geometry.slotCount
        w5 := BitVec.ofNat 16 s.watermark } := by
  have run : (decide (s.device.state = .run)).toNat = if s.device.state = .run then 1 else 0 := by
    cases s.device.state <;> rfl
  rw [State.deviceResults, run, mul_toNat_bool]
  rfl

/-- Settles O17: no check refuses, and the pages and the device's record are as their `_eq` lemmas say. -/
theorem portAndDeviceQueriesReport : Obligations.PortAndDeviceQueriesReport := by
  intro s p a
  refine ⟨fun q issued accepted named => ?_, fun issued => ?_⟩
  · have answer := State.queryPortAnswer_of_none accepted named
    rw [State.portPage0_eq, State.portPage1_eq] at answer
    exact exec_of_answer (c := .queryPort) issued answer
  · have answer : s.answerTo p a .queryDevice = s.answer .ok s.deviceResults := rfl
    rw [State.deviceResults_eq] at answer
    exact exec_of_answer (c := .queryDevice) issued answer

/-! ### The port-reset input (R134) -/

/-- The event unit and the window's settings that every port reset clears, the port's state aside (R134, R144, R151). -/
theorem State.portReset_eq (s : State) (p : Port) :
    s.portReset p =
      { s.portResetByState p with
        events := (s.portResetByState p).events.set p { pending := 0, enable := 0, priority := 0, threshold := 0 }
        windows := (s.portResetByState p).windows.set p
          { (s.portResetByState p).windows.get p with capture := 0, cause := .portReset, counter := 0 } } := rfl

theorem exec_portReset_of_released {s : State} {p : Port} (released : s.porAsserted = false) :
    exec (.portReset p) s = .next (s.portReset p) := State.unlessPowerOn_of_released released _

/-- A command in ISSUED is discarded with RESET, and no other window changes (R151). -/
theorem State.updWindow_discard (s : State) (p : Port) :
    s.updWindow p Window.discard =
      { s with
        windows := s.windows.set p
          (match (s.windows.get p).issued with
          | none => s.windows.get p
          | some _ => { s.windows.get p with issued := none, response := 0x1E, results := {} }) } := by
  unfold State.updWindow PerPort.modify Window.discard
  cases (s.windows.get p).issued <;> rfl

/-- Clearing the pending flags ahead of the whole event unit leaves no trace (R134, R144). -/
theorem State.clearPending_set (s : State) (p : Port) (u : EventUnit) : (s.clearPending p).events.set p u = s.events.set p u :=
  PerPort.set_set ..

/-- Settles O46: the port state decides `State.portResetByState`; what follows it is `State.portReset_eq`. -/
theorem portResetPurgesOrDiscards : Obligations.PortResetPurgesOrDiscards := by
  intro s p released purged left
  rw [exec_portReset_of_released released, State.portReset_eq]
  by_cases attached : s.attached p = true
  · have leaves : s.portResetByState p = left := (if_pos attached).trans (if_pos attached).symm
    rw [leaves]
  · have discards : left = s.updWindow p Window.discard := (if_neg attached).trans (s.updWindow_discard p).symm
    have stays : s.portResetByState p = (s.updWindow p Window.discard).clearPending p := if_neg attached
    rw [stays, discards, State.clearPending_set]
    rfl

/-! ### Reports (R128, R129, R131) -/

section
variable {s : State} {p : Port} {k : ReportKind}

theorem exec_faultScoreReport_of_sent (released : s.porAsserted = false)
    (sent : { port := p, kind := k : Report } ∈ s.reports) :
    exec (.faultScoreReport p k) s =
      .next (({ s with reports := s.reports.erase { port := p, kind := k } } : State).score p k) :=
  (State.unlessPowerOn_of_released released _).trans (congrArg _ (if_pos sent))

theorem State.score_of_absent (absent : s.attached p = false) : s.score p k = s := by
  unfold State.score
  rw [absent]
  rfl

theorem State.score_refusal (s : State) (p : Port) : s.score p .refusal = s := ite_self s

theorem State.score_success (attached : s.attached p = true) : s.score p .success = s.lowerScore p := if_pos attached

/-- A fault and a lease expiry charge alike (R128). -/
theorem State.score_of_charge (attached : s.attached p = true) (charges : k = .fault ∨ k = .leaseExpiry) :
    s.score p k = s.charge p := by
  rcases charges with rfl | rfl <;> exact if_pos attached

theorem crossesLevel_iff {old new : Nat} :
    crossesLevel old new = true ↔ old < 96 ∧ 96 ≤ new ∨ old < 128 ∧ 128 ≤ new := by
  simp only [crossesLevel, Config.warnedScore, Config.restrictedScore, Bool.or_eq_true, Bool.and_eq_true, decide_eq_true_eq]

/-- Below 256 a charge raises the score by 8, and SCORE where a level is crossed (R128, R129). -/
theorem State.charge_of_below (below : (s.ports.get p).score + 8 < 256) :
    let t := s.updPort p fun r => { r with score := (s.ports.get p).score + 8 }
    s.charge p =
      if (s.ports.get p).score < 96 ∧ 96 ≤ (s.ports.get p).score + 8 ∨
          (s.ports.get p).score < 128 ∧ 128 ≤ (s.ports.get p).score + 8
        then t.raise p .score else t := by
  refine (if_neg (Nat.not_le.2 below)).trans ?_
  simp only [crossesLevel_iff]

theorem State.charge_of_limit (limit : 256 ≤ (s.ports.get p).score + 8) : s.charge p = s.isolate p := if_pos limit

end

/-- Settles O48: the class of the report decides which of the `State.score_…` and `State.charge_…` lemmas applies. -/
theorem reportsMoveTheFaultScore : Obligations.ReportsMoveTheFaultScore := by
  intro s p k released sent u r scored
  rw [exec_faultScoreReport_of_sent released sent]
  refine ⟨fun absent => ?_, fun attached refusal => ?_, fun attached success => ?_, fun attached charges => ⟨fun below => ?_,
    fun limit => ?_⟩⟩
  · exact congrArg _ (State.score_of_absent (s := u) absent)
  · subst refusal
    exact congrArg _ (u.score_refusal p)
  · subst success
    exact congrArg _ (State.score_success (s := u) attached)
  · exact congrArg _ ((State.score_of_charge (s := u) attached charges).trans (State.charge_of_below below))
  · exact congrArg _ ((State.score_of_charge (s := u) attached charges).trans (State.charge_of_limit limit))

/-! ### Due ticks at the port context unit and at device control (R133, R157) -/

/-- The authorization counter's share of a due tick, by the counter and the quorum (R157). -/
theorem State.takeAuthorization_eq (s : State) :
    let u : State := { s with due := { s.due with authorization := false } }
    s.takeAuthorization =
      if s.device.state = .run ∧ s.device.quorum ≤ s.voteCount then
        (if s.device.authorization + 1 < 4096
          then { u with device := { s.device with authorization := s.device.authorization + 1 } }
          else u.deviceReset)
      else u := by
  intro u
  by_cases quorate : s.quorate = true
  · rw [if_pos (State.quorate_iff.1 quorate)]
    by_cases room : s.device.authorization + 1 < 4096
    · rw [if_pos room, State.takeAuthorization_of_below fun limit => Nat.not_le.2 room limit.2,
        State.deviceTick_of_advance quorate room]
    · rw [if_neg room, State.takeAuthorization_of_limit quorate (Nat.le_of_not_lt room)]
      rfl
  · rw [if_neg fun h => quorate (State.quorate_iff.2 h), State.takeAuthorization_of_below fun limit => quorate limit.1,
      State.deviceTick_of_stay (.inl quorate)]

/-- Settles O49: each port cools by `PortRecord.cool`, and device control takes its share by `State.takeAuthorization_eq`. -/
theorem coolDownAndAuthorizationTakeTheirTick : Obligations.CoolDownAndAuthorizationTakeTheirTick := by
  intro s released
  refine ⟨fun p due => ⟨s.takeCoolDowns, exec_coolDownExpiry_of_due released due, fun q => ?_, rfl⟩, fun due => ?_⟩
  · exact PerPort.get_map ..
  · rw [exec_authorizationExpiry_of_due released due, State.takeAuthorization_eq]

end Sys2Proof.Machine
end

section
/-! The purge of a port (R132), field by field, against its statement: what it takes at the lock table lock by lock, the rest step by
step. -/

namespace Sys2Proof.Machine

/-! ### Handoffs from a holder, at several locks (R112, R102) -/

/-- The lock is held by port `p` (R96). -/
def Lock.heldBy (k : Lock) (p : Port) : Bool := k.grant.any fun g => decide (g.holder = p)

/-- The lock is held by port `p`, and port `q` is its first waiter. -/
def Lock.leftTo (k : Lock) (p q : Port) : Bool := k.heldBy p && decide (k.waiters.head? = some q)

/-- The lock after port `p` has given it up: with its first waiter, FREE, or as it was where `p` does not hold it (R102). -/
def Lock.leftBy (k : Lock) (p : Port) : Lock :=
  if k.heldBy p then
    match k.waiters with
    | [] => { k with grant := none }
    | w :: ws => { k with waiters := ws }.grantTo w
  else k

theorem State.holdsLock_eq (s : State) (p : Port) (l : LockId) : s.holdsLock p l = (s.locks.get l).heldBy p := by
  unfold State.holdsLock Lock.heldBy
  cases (s.locks.get l).grant <;> rfl

theorem EventUnit.told_granted (u : EventUnit) (granted : Bool) :
    u.told granted false = { u with pending := u.pending ||| if granted then 8#12 else 0#12 } := by
  simp [EventUnit.told]

section
variable (s : State) (p : Port) (l : LockId)

theorem State.handoffFrom_locks_same : (s.handoffFrom p l).locks.get l = (s.locks.get l).leftBy p := by
  unfold State.handoffFrom Lock.leftBy
  rw [State.holdsLock_eq]
  split
  · exact s.handoff_locks_same l
  · rfl

theorem State.handoffFrom_locks_other {m : LockId} (other : m ≠ l) : (s.handoffFrom p l).locks.get m = s.locks.get m := by
  unfold State.handoffFrom
  split
  · exact s.handoff_locks_other other
  · rfl

theorem State.handoffFrom_waits_get (q : Port) :
    (s.handoffFrom p l).waits.get q = if (s.locks.get l).leftTo p q then none else s.waits.get q := by
  unfold State.handoffFrom Lock.leftTo
  rw [State.holdsLock_eq]
  cases (s.locks.get l).heldBy p with
  | false => rfl
  | true => simpa using s.handoff_waits_get l q

theorem State.handoffFrom_events_get (q : Port) :
    (s.handoffFrom p l).events.get q = (s.events.get q).told ((s.locks.get l).leftTo p q) false := by
  unfold State.handoffFrom Lock.leftTo
  rw [State.holdsLock_eq]
  cases (s.locks.get l).heldBy p with
  | false => exact (EventUnit.told_false _).symm
  | true => exact s.handoff_events_get l q

end

/-- From `s` to `t` port `p` has given up what it held of the locks `ls`. -/
structure State.GivenUp (s : State) (p : Port) (ls : List LockId) (t : State) : Prop where
  locks : ∀ l, t.locks.get l = if l ∈ ls then (s.locks.get l).leftBy p else s.locks.get l
  waits : ∀ q, t.waits.get q = if ls.any fun l => (s.locks.get l).leftTo p q then none else s.waits.get q
  events : ∀ q, t.events.get q = (s.events.get q).told (ls.any fun l => (s.locks.get l).leftTo p q) false

/-- A further handoff, at a lock not handed off before. -/
theorem State.GivenUp.snoc {s t : State} {p : Port} {ls : List LockId} {l : LockId} (h : s.GivenUp p ls t)
    (untouched : l ∉ ls) : s.GivenUp p (ls ++ [l]) (t.handoffFrom p l) := by
  have record : t.locks.get l = s.locks.get l := (h.locks l).trans (if_neg untouched)
  refine ⟨fun m => ?_, fun q => ?_, fun q => ?_⟩
  · by_cases same : m = l
    · subst same
      simp [State.handoffFrom_locks_same, record]
    · simp [State.handoffFrom_locks_other _ _ _ same, h.locks, same]
  · rw [State.handoffFrom_waits_get, h.waits, record, List.any_append]
    cases (ls.any fun l => (s.locks.get l).leftTo p q) <;> simp
  · rw [State.handoffFrom_events_get, h.events, record, EventUnit.told_told, List.any_append]
    simp

/-- Each lock is handed off by its own record, so handoffs at different locks add up. -/
theorem State.handoffs_givenUp (s : State) (p : Port) (ls : List LockId) (once : ls.Nodup) :
    s.GivenUp p ls (ls.foldl (fun u l => u.handoffFrom p l) s) := by
  induction ls using List.reverseRecOn with
  | nil => exact ⟨fun l => rfl, fun q => rfl, fun q => (EventUnit.told_false _).symm⟩
  | append_singleton ls l ih =>
    obtain ⟨before, -, apart⟩ := List.nodup_append.1 once
    rw [List.foldl_append]
    exact (ih before).snoc fun hl => apart l hl l (by simp) rfl

/-! ### Waiter lists (R97, R112) -/

/-- Wherever port `p` stands in a waiter list, its wait record names that lock (R97). -/
def State.WaitNamed (s : State) (p : Port) : Prop := ∀ l, p ∈ (s.locks.get l).waiters → s.waits.get p = some l

/-- The port leaves the list that its wait record names. -/
def State.leaveLists (s : State) (p : Port) : State :=
  match s.waits.get p with
  | some l => s.leaveList p l
  | none => s

theorem State.purgeLocks_eq (s : State) (p : Port) :
    s.purgeLocks p = (indices 16).foldl (fun u l => u.handoffFrom p l) (s.leaveLists p) := rfl

theorem State.leaveLists_events (s : State) (p : Port) : (s.leaveLists p).events = s.events := by
  unfold State.leaveLists
  cases s.waits.get p <;> simp

theorem State.leaveLists_waits_get (s : State) (p q : Port) :
    (s.leaveLists p).waits.get q = if q = p then none else s.waits.get q := by
  unfold State.leaveLists
  cases waiting : s.waits.get p with
  | some l => exact PerPort.get_set ..
  | none =>
    by_cases same : q = p
    · exact (same ▸ waiting).trans (if_pos same).symm
    · exact (if_neg same).symm

/-- A lock record without port `p` among its waiters. -/
def Lock.without (k : Lock) (p : Port) : Lock := { k with waiters := k.waiters.filter fun q => decide (q ≠ p) }

theorem Lock.without_of_not_mem {k : Lock} {p : Port} (apart : p ∉ k.waiters) : k.without p = k := by
  have same : k.waiters.filter (fun q => decide (q ≠ p)) = k.waiters :=
    List.filter_eq_self.2 fun q hq => decide_eq_true (ne_of_mem_of_not_mem hq apart)
  rw [Lock.without, same]

/-- A port whose wait record is right stands in no list afterwards. -/
theorem State.leaveLists_locks_get {s : State} {p : Port} (named : s.WaitNamed p) (l : LockId) :
    (s.leaveLists p).locks.get l = (s.locks.get l).without p := by
  unfold State.leaveLists
  cases waiting : s.waits.get p with
  | some m =>
    refine (Table.get_modify ..).trans ?_
    split
    · next same =>
      rw [same]
      rfl
    · next other =>
      refine (Lock.without_of_not_mem fun stands => other ?_).symm
      exact Option.some.inj ((named l stands).symm.trans waiting)
  | none =>
    refine (Lock.without_of_not_mem fun stands => ?_).symm
    exact nomatch (named l stands).symm.trans waiting

/-! ### Step 6: the lock table (R112) -/

section
variable {s : State} {p : Port}

theorem State.purgeLocks_locks_get (named : s.WaitNamed p) (l : LockId) :
    (s.purgeLocks p).locks.get l = ((s.locks.get l).without p).leftBy p := by
  rw [State.purgeLocks_eq, ((s.leaveLists p).handoffs_givenUp p _ (nodup_indices 16)).locks, if_pos (mem_indices 16 l),
    State.leaveLists_locks_get named]

theorem State.purgeLocks_waits_get (named : s.WaitNamed p) (q : Port) :
    (s.purgeLocks p).waits.get q =
      if q = p ∨ ((indices 16).any fun l => ((s.locks.get l).without p).leftTo p q) = true then none else s.waits.get q := by
  rw [State.purgeLocks_eq, ((s.leaveLists p).handoffs_givenUp p _ (nodup_indices 16)).waits, State.leaveLists_waits_get]
  simp only [State.leaveLists_locks_get named]
  by_cases same : q = p <;> simp [same]

theorem State.purgeLocks_events_get (named : s.WaitNamed p) (q : Port) :
    (s.purgeLocks p).events.get q =
      (s.events.get q).told ((indices 16).any fun l => ((s.locks.get l).without p).leftTo p q) false := by
  rw [State.purgeLocks_eq, ((s.leaveLists p).handoffs_givenUp p _ (nodup_indices 16)).events, State.leaveLists_events]
  simp only [State.leaveLists_locks_get named]

end

/-- GRANT aside, step 6 leaves the event units. -/
theorem State.purgeLocks_events_cleared (s : State) (p q : Port) :
    { (s.purgeLocks p).events.get q with pending := 0 } = { s.events.get q with pending := 0 } := by
  rw [State.purgeLocks_eq, ((s.leaveLists p).handoffs_givenUp p _ (nodup_indices 16)).events, State.leaveLists_events]
  rfl

/-! ### The other steps -/

/-- The purge up to step 5. -/
def State.purgeToLocks (s : State) (p : Port) : State :=
  ((((s.updWindow p Window.discard).purgeReservation p).purgeQueue p).clearNews p).orphanPublishes p

/-- Before step 6 the purge touches neither lock table nor event units nor device control. -/
theorem State.purgeToLocks_frame (s : State) (p : Port) :
    (s.purgeToLocks p).locks = s.locks ∧ (s.purgeToLocks p).waits = s.waits ∧ (s.purgeToLocks p).events = s.events ∧
    (s.purgeToLocks p).device = s.device := by
  simp [State.purgeToLocks]

theorem State.WaitNamed.purgeToLocks {s : State} {p : Port} (named : s.WaitNamed p) : (s.purgeToLocks p).WaitNamed p := by
  obtain ⟨locks, waits, -, -⟩ := s.purgeToLocks_frame p
  unfold State.WaitNamed
  rwa [locks, waits]

theorem State.purge_eq (s : State) (p : Port) :
    s.purge p = (((((s.purgeToLocks p).purgeLocks p).withdrawVote p).clearPending p).dropReports p) := rfl

theorem State.voteCount_congr {s t : State} (ports : t.ports = s.ports) : t.voteCount = s.voteCount := by
  simp only [State.voteCount, State.attached, ports]

section
variable (s : State) (p : Port)

/-- Each lock by its own record alone (R112). -/
theorem State.purge_locks_get (named : s.WaitNamed p) (l : LockId) :
    (s.purge p).locks.get l = ((s.locks.get l).without p).leftBy p := by
  obtain ⟨locks, -, -, -⟩ := s.purgeToLocks_frame p
  have sixth : (s.purge p).locks = ((s.purgeToLocks p).purgeLocks p).locks := by simp [State.purge_eq]
  rw [sixth, State.purgeLocks_locks_get named.purgeToLocks, locks]

theorem State.purge_waits_get (named : s.WaitNamed p) (q : Port) :
    (s.purge p).waits.get q =
      if q = p ∨ ((indices 16).any fun l => ((s.locks.get l).without p).leftTo p q) = true then none else s.waits.get q := by
  obtain ⟨locks, waits, -, -⟩ := s.purgeToLocks_frame p
  have sixth : (s.purge p).waits = ((s.purgeToLocks p).purgeLocks p).waits := by simp [State.purge_eq]
  rw [sixth, State.purgeLocks_waits_get named.purgeToLocks, locks, waits]

/-- GRANT at a port that the purged one leaves a lock to, and nothing else (R102). -/
theorem State.purge_events_other (named : s.WaitNamed p) {q : Port} (other : q ≠ p) :
    (s.purge p).events.get q =
      (s.events.get q).told ((indices 16).any fun l => ((s.locks.get l).without p).leftTo p q) false := by
  obtain ⟨locks, -, events, -⟩ := s.purgeToLocks_frame p
  have sixth : (s.purge p).events.get q = ((s.purgeToLocks p).purgeLocks p).events.get q := by
    simp [State.purge_eq, State.clearPending, PerPort.get_modify, other]
  rw [sixth, State.purgeLocks_events_get named.purgeToLocks, locks, events]

/-- Step 8. -/
theorem State.purge_events_same : (s.purge p).events.get p = { s.events.get p with pending := 0 } := by
  obtain ⟨-, -, events, -⟩ := s.purgeToLocks_frame p
  have cleared := (s.purgeToLocks p).purgeLocks_events_cleared p p
  rw [events] at cleared
  rw [← cleared]
  simp [State.purge_eq, State.clearPending, PerPort.get_modify]

/-- Step 2, whether or not the port has a reservation (R21). -/
theorem State.purgeReservation_fields :
    (s.purgeReservation p).windows = s.windows.modify p (fun w => { w with fillPointer := 0 }) ∧
    (s.purgeReservation p).reservations = s.reservations.set p none := by
  unfold State.purgeReservation
  cases s.reservations.get p <;> simp [State.dropReservation]

/-- Steps 1 and 2 at the window: the issued command is discarded, the fill pointer is 0 (R151, R21). -/
theorem State.purge_windows :
    (s.purge p).windows = s.windows.set p { (s.windows.get p).discard with fillPointer := 0 } := by
  simp [State.purge, State.purgeReservation_fields, PerPort.modify]

theorem State.purge_reservations : (s.purge p).reservations = s.reservations.set p none := by
  simp [State.purge, State.purgeReservation_fields]

theorem State.purge_queues : (s.purge p).queues = s.queues.set p [] := by
  simp [State.purge, State.purgeQueue, State.dropEntries]

theorem State.emptyHold_holds_get (q : Port) : (s.emptyHold p).holds.get q = if q = p then none else s.holds.get q := by
  unfold State.emptyHold
  cases held : s.holds.get p with
  | some h => simp [PerPort.get_set]
  | none =>
    by_cases same : q = p
    · exact (same ▸ held).trans (if_pos same).symm
    · exact (if_neg same).symm

theorem State.purge_holds_get (q : Port) : (s.purge p).holds.get q = if q = p then none else s.holds.get q := by
  simp [State.purge, State.purgeQueue, State.emptyHold_holds_get]

theorem State.purge_channels : (s.purge p).channels = s.channels.map (Channel.clearNew p) := by
  simp [State.purge, State.clearNews]

/-- Step 5 (R62). -/
theorem State.purge_requests :
    (s.purge p).publishQueue = s.publishQueue.map (Request.orphan p) ∧
    (s.purge p).engine = s.engine.map (fun f => { f with request := f.request.orphan p }) ∧
    (s.purge p).completions = s.completions.set p [] := by
  simp [State.purge, State.orphanPublishes]

theorem FanOut.orphan_eq (f : FanOut) :
    { f with request := f.request.orphan p } =
      if f.request.publisher = p then { f with request := { f.request with orphaned := true } } else f := by
  unfold Request.orphan
  split <;> rfl

/-- The count that decides is the one after the vote is withdrawn (R156, R157). -/
theorem State.withdrawVote_device :
    (s.withdrawVote p).device =
      if s.device.state = .run ∧ (s.withdrawVote p).voteCount < s.device.quorum then { s.device with authorization := 0 }
      else s.device := by
  have count : (s.withdrawVote p).voteCount = (s.updPort p fun r => { r with vote := false }).voteCount :=
    State.voteCount_congr (by simp [State.withdrawVote])
  rw [count]
  exact apply_ite State.device ..

/-- Step 7. -/
theorem State.purge_device :
    (s.purge p).device =
      if s.device.state = .run ∧ (s.purge p).voteCount < s.device.quorum then { s.device with authorization := 0 }
      else s.device := by
  have count : (s.purge p).voteCount = (((s.purgeToLocks p).purgeLocks p).withdrawVote p).voteCount :=
    State.voteCount_congr (by simp [State.purge_eq])
  have before : ((s.purgeToLocks p).purgeLocks p).device = s.device := by simp [State.purgeToLocks]
  have voted := ((s.purgeToLocks p).purgeLocks p).withdrawVote_device p
  rw [before, ← count] at voted
  rw [← voted]
  simp [State.purge_eq]

end

/-- Settles O47: each field by the `State.purge_…` lemma that speaks of it. -/
theorem purgeTakesEveryHolding : Obligations.PurgeTakesEveryHolding := by
  intro s p t held released behind holds granted
  obtain ⟨slots, freeList, due, ports⟩ := s.purge_pool p
  obtain ⟨requests, spreading, completions⟩ := s.purge_requests p
  obtain ⟨pending, porAsserted, geometry, payload, watermark, time⟩ := s.purge_frame p
  refine ⟨?_, s.purge_reservations p, s.purge_queues p, s.purge_holds_get p, slots, freeList, due, ports, fun ch => ?_,
    requests, ?_, completions, fun named => ⟨fun l => ?_, s.purge_waits_get p named, fun q other => ?_⟩,
    s.purge_events_same p, s.purge_device p, s.purge_reports p, payload, geometry, watermark, time, pending, porAsserted⟩
  · refine (s.purge_windows p).trans ?_
    unfold Window.discard
    cases (s.windows.get p).issued <;> rfl
  · exact (congrArg (fun x => x.get ch) (s.purge_channels p)).trans (Table.get_map ..)
  · refine spreading.trans ?_
    simp only [FanOut.orphan_eq]
  · exact s.purge_locks_get p named l
  · refine (s.purge_events_other p named other).trans ?_
    rw [EventUnit.told_granted]
    rfl

end Sys2Proof.Machine
end

section
/-! The event units against their statements (Chapter 9): the event locations bit by bit (R139, R140), the interrupt line and
TOP_CAUSE (R141, R142). -/

namespace Sys2Proof.Machine

/-! ### The event locations (R139, R140) -/

section
variable {n : Nat}

theorem EventUnit.clear_pending_bit (u : EventUnit) (w : Word) (inside : n < 12) :
    (u.clear w).pending.getLsbD n = (u.pending.getLsbD n && !w.getLsbD n) := by
  simp [EventUnit.clear, inside]

/-- EVENT_PRIORITY at 12h: events 0 to 7, the lower sixteen positions. -/
theorem EventUnit.setPriorities_low_bit (u : EventUnit) (w : Word) (inside : n < 24) :
    (u.setPriorities .low w).priority.getLsbD n = if n < 16 then w.getLsbD n else u.priority.getLsbD n := by
  simp only [EventUnit.setPriorities, BitVec.getLsbD_append]
  split
  · rfl
  · next above =>
    rw [BitVec.getLsbD_extractLsb', decide_eq_true (by omega : n - 16 < 8), Bool.true_and,
      Nat.add_sub_cancel' (Nat.le_of_not_lt above)]

/-- EVENT_PRIORITY at 13h: events 8 to 11, the upper eight positions. -/
theorem EventUnit.setPriorities_high_bit (u : EventUnit) (w : Word) (inside : n < 24) :
    (u.setPriorities .high w).priority.getLsbD n = if n < 16 then u.priority.getLsbD n else w.getLsbD (n - 16) := by
  simp only [EventUnit.setPriorities, BitVec.getLsbD_append]
  split
  · next below => rw [BitVec.getLsbD_extractLsb', decide_eq_true below, Bool.true_and, Nat.zero_add]
  · rw [BitVec.getLsbD_extractLsb', decide_eq_true (by omega : n - 16 < 8), Bool.true_and, Nat.zero_add]

/-- A field that takes the lowest `k` bits of a word. -/
theorem Word.lowest_bit (w : Word) {k : Nat} (inside : n < k) : (w.extractLsb' 0 k).getLsbD n = w.getLsbD n := by
  rw [BitVec.getLsbD_extractLsb', decide_eq_true inside, Bool.true_and, Nat.zero_add]

end

/-- A write to an event location, taken in every port state, changes the port's event unit alone. -/
theorem State.unlessPowerOn_updEvents {s : State} (released : s.porAsserted = false) (p : Port) (f : EventUnit → EventUnit) :
    s.unlessPowerOn (s.updEvents p f) = .next { s with events := s.events.set p (f (s.events.get p)) } :=
  State.unlessPowerOn_of_released released _

/-- Settles O44: each row writes the event unit by `State.unlessPowerOn_updEvents`; the bits are those of its field's lemma. -/
theorem eventLocationsAreWritten : Obligations.EventLocationsAreWritten := by
  intro s p w released u wrote
  refine ⟨⟨(u.clear w).pending, ?_, fun n inside => u.clear_pending_bit w inside⟩,
    ⟨w.extractLsb' 0 12, ?_, fun n inside => Word.lowest_bit w inside⟩,
    ⟨(u.setPriorities .low w).priority, ?_, fun n inside => u.setPriorities_low_bit w inside⟩,
    ⟨(u.setPriorities .high w).priority, ?_, fun n inside => u.setPriorities_high_bit w inside⟩,
    ⟨w.extractLsb' 0 2, ?_, fun n inside => Word.lowest_bit w inside⟩⟩
  · exact State.unlessPowerOn_updEvents released p fun u => u.clear w
  · exact State.unlessPowerOn_updEvents released p fun u => { u with enable := w.extractLsb' 0 12 }
  · exact State.unlessPowerOn_updEvents released p fun u => u.setPriorities .low w
  · exact State.unlessPowerOn_updEvents released p fun u => u.setPriorities .high w
  · exact State.unlessPowerOn_updEvents released p fun u => { u with threshold := w.extractLsb' 0 2 }

/-! ### The twelve events (9.1) -/

theorem Event.mem_all (e : Event) : e ∈ Event.all := by cases e <;> decide

/-- The list of 9.1 is in the order of the numbers: the tie order of R142. -/
theorem Event.all_ordered : Event.all.Pairwise fun e f => e.number < f.number := by decide

theorem Event.number_lt (e : Event) : e.number < 12 := by cases e <;> decide

/-- In a list ordered by a key, a search finds the element of least key among those that pass. -/
theorem find?_of_least {α : Type} {key : α → Nat} {l : List α} (ordered : l.Pairwise fun x y => key x < key y)
    {f : α → Bool} {a : α} (listed : a ∈ l) (passes : f a = true) (least : ∀ b, f b = true → key a ≤ key b) :
    l.find? f = some a := by
  obtain ⟨before, after, rfl⟩ := List.append_of_mem listed
  refine List.find?_eq_some_iff_append.2 ⟨passes, before, after, rfl, fun b hb => ?_⟩
  have smaller : key b < key a := (List.pairwise_append.1 ordered).2.2 b hb a (List.mem_cons_self ..)
  have fails : ¬ f b = true := fun passes => Nat.not_le.2 smaller (least b passes)
  simpa using fails

section
variable (u : EventUnit)

/-- Two bits of EVENT_PRIORITY, read as a digit of base 4. -/
theorem EventUnit.priorityOf_eq (e : Event) : u.priorityOf e = u.priority.toNat / 4 ^ e.number % 4 := by
  rw [EventUnit.priorityOf, BitVec.extractLsb'_toNat, Nat.shiftRight_eq_div_pow, Nat.pow_mul]

theorem EventUnit.priorityOf_lt (e : Event) : u.priorityOf e < 4 := BitVec.isLt _

theorem EventUnit.qualifies_iff (e : Event) :
    u.qualifies e = true ↔
      u.pending.getLsbD e.number = true ∧ u.enable.getLsbD e.number = true ∧ u.threshold.toNat ≤ u.priorityOf e := by
  simp [EventUnit.qualifies, and_assoc]

/-! ### TOP_CAUSE (R142) -/

variable {u} {e : Event}

theorem EventUnit.firstAt_eq_none {n : Nat} (absent : ∀ f, u.qualifies f = true → u.priorityOf f ≠ n) : u.firstAt n = none := by
  refine List.find?_eq_none.2 fun f _ passes => ?_
  obtain ⟨qualifies, rank⟩ := Bool.and_eq_true_iff.1 passes
  exact absent f qualifies (of_decide_eq_true rank)

theorem EventUnit.firstAt_eq_some (qualifies : u.qualifies e = true)
    (first : ∀ f, u.qualifies f = true → u.priorityOf f = u.priorityOf e → e.number ≤ f.number) :
    u.firstAt (u.priorityOf e) = some e := by
  refine find?_of_least Event.all_ordered e.mem_all ?_ fun f passes => ?_
  · rw [qualifies, decide_eq_true rfl, Bool.true_and]
  · obtain ⟨qualifies, rank⟩ := Bool.and_eq_true_iff.1 passes
    exact first f qualifies (of_decide_eq_true rank)

/-- The priorities are searched from 3 down: the first that has an event decides. -/
theorem EventUnit.top_of_firstAt {n : Nat} (inside : n < 4) (found : u.firstAt n = some e)
    (above : ∀ m, n < m → u.firstAt m = none) : u.top = some e := by
  rw [EventUnit.top]
  obtain rfl | rfl | rfl | rfl : n = 0 ∨ n = 1 ∨ n = 2 ∨ n = 3 := by omega
  · simp [above 3, above 2, above 1, found]
  · simp [above 3, above 2, found]
  · simp [above 3, found]
  · simp [found]

/-- The qualifying event of highest priority, the earliest of 9.1 among equals. -/
theorem EventUnit.top_of_highest (qualifies : u.qualifies e = true)
    (highest : ∀ f, u.qualifies f = true →
      u.priorityOf f < u.priorityOf e ∨ u.priorityOf f = u.priorityOf e ∧ e.number ≤ f.number) : u.top = some e := by
  refine EventUnit.top_of_firstAt (u.priorityOf_lt e) (EventUnit.firstAt_eq_some qualifies fun f hf equal => ?_) fun m higher =>
    EventUnit.firstAt_eq_none fun f hf rank => ?_
  · obtain lower | ⟨-, earlier⟩ := highest f hf
    · exact absurd equal (Nat.ne_of_lt lower)
    · exact earlier
  · obtain lower | ⟨equal, -⟩ := highest f hf <;> omega

theorem EventUnit.top_eq_none (absent : ¬∃ e, u.qualifies e = true) : u.top = none := by
  have empty : ∀ n, u.firstAt n = none := fun n => EventUnit.firstAt_eq_none fun f hf => absurd ⟨f, hf⟩ absent
  simp [EventUnit.top, empty]

/-- The word of TOP_CAUSE: a number below 12 and a priority below 4 fit their bytes. -/
theorem EventUnit.topCause_of_top (top : u.top = some e) :
    u.topCause = BitVec.ofNat 16 (e.number + 256 * u.priorityOf e) := by
  have number := e.number_lt
  have rank := u.priorityOf_lt e
  rw [EventUnit.topCause, top]
  show toWord (e.number % 256 + 256 * (u.priorityOf e % 256)) = _
  rw [Nat.mod_eq_of_lt (by omega), Nat.mod_eq_of_lt (by omega), toWord]

theorem EventUnit.topCause_of_none (top : u.top = none) : u.topCause = 0xFFFF := by
  rw [EventUnit.topCause, top]

end

/-! ### The interrupt line (R141), the location of TOP_CAUSE and a raise (R138) -/

section
variable {s : State}

theorem State.interrupt_iff (released : s.porAsserted = false) (p : Port) :
    s.interrupt p = true ↔ s.attached p = true ∧ ∃ e, (s.events.get p).qualifies e = true := by
  simp [State.interrupt, released, List.any_eq_true, Event.mem_all]

theorem State.readWindow_topCause (released : s.porAsserted = false) (p : Port) :
    s.readWindow p 0x15 = (s.events.get p).topCause := if_neg (by simp [released])

theorem State.raise_eq (s : State) (p : Port) (e : Event) :
    s.raise p e = { s with events := s.events.set p ((s.events.get p).raise e) } := rfl

end

/-- Settles O45: in the statement's numerals the model's own `number`, `priorityOf` and `qualifies`; then the line by
`State.interrupt_iff` and TOP_CAUSE by the event that `EventUnit.top` finds. -/
theorem qualifyingEventsDriveTheLineAndTopCause : Obligations.QualifyingEventsDriveTheLineAndTopCause := by
  intro s p released u number priority qualifies
  have numbered : number = Event.number := rfl
  have ranked : ∀ e, priority e = u.priorityOf e := fun e => (u.priorityOf_eq e).symm
  have qualified : ∀ e, qualifies e ↔ u.qualifies e = true := fun e => by
    rw [EventUnit.qualifies_iff, ← ranked]
    rfl
  simp only [qualified, ranked, numbered, State.readWindow_topCause released]
  refine ⟨State.interrupt_iff released p, fun absent => ?_, fun e he highest => ?_, fun e => s.raise_eq p e⟩
  · exact EventUnit.topCause_of_none (EventUnit.top_eq_none absent)
  · exact EventUnit.topCause_of_top (EventUnit.top_of_highest he highest)

end Sys2Proof.Machine
end

section
/-! A write to COMMAND against its statement (R146, R148, R149), with the code tables of 10.5 and 10.6. -/

namespace Sys2Proof.Machine

section
variable {s : State} {p : Port} {w : Word}

/-- Each of the four rows that carry a write to COMMAND has the write's effect (log 2). -/
theorem exec_of_commandWrite (released : s.porAsserted = false) {i : Instr}
    (row : i ∈ [Instr.commandIssue p w, .collision p w, .unknownCommand p w, .registerWrite p 0x00 w]) :
    exec i s = .next (s.writeCommand p w) := by
  have effect : s.unlessPowerOn (s.writeCommand p w) = .next (s.writeCommand p w) := State.unlessPowerOn_of_released released _
  simp only [List.mem_cons, List.not_mem_nil, or_false] at row
  rcases row with rfl | rfl | rfl | rfl <;> exact effect

theorem State.writeCommand_of_issued {j : Issued} (issued : (s.windows.get p).issued = some j) :
    s.writeCommand p w = s.locationFaulted p .collision (commandCode w) := by
  simp only [State.writeCommand, issued, State.locationFault_eq]

theorem State.writeCommand_of_code {c : Command} (ready : (s.windows.get p).issued = none) (code : c.code = commandCode w) :
    s.writeCommand p w = s.updWindow p fun x => x.issue c := by
  simp only [State.writeCommand, ready, ← code, Laws.OperandsAdmitted.ofCode_code]

theorem Command.ofCode_eq_none {b : Byte} (unlisted : ∀ c : Command, c.code ≠ b) : Command.ofCode b = none :=
  Option.eq_none_iff_forall_ne_some.2 fun c found => unlisted c (Laws.OperandsAdmitted.code_of_ofCode found)

theorem Window.rejectCode_eq (x : Window) (b : Byte) :
    x.rejectCode b =
      { x with counter := x.counter + 1, response := 0x20, results := {}, lastFault := b ++ (0x20 : Byte) } := by
  rw [← bytesWord_append]
  rfl

/-- The window answers the code itself, raises FAULT and reports the fault (R149). -/
theorem State.writeCommand_of_unlisted (ready : (s.windows.get p).issued = none)
    (unlisted : ∀ c : Command, c.code ≠ commandCode w) :
    s.writeCommand p w =
      { s with
        windows := s.windows.set p ((s.windows.get p).rejectCode (commandCode w))
        events := s.events.set p { s.events.get p with pending := (s.events.get p).pending ||| 1#12 }
        reports := s.reported p .fault } := by
  simp only [State.writeCommand, ready, Command.ofCode_eq_none unlisted]
  rfl

end

/-- Settles O41: the two tables entry by entry; then the write by the window's state and the code. -/
theorem commandWritesIssueCollideOrAreUnknown : Obligations.CommandWritesIssueCollideOrAreUnknown := by
  refine ⟨fun c => by cases c <;> rfl, fun r => by cases r <;> rfl, ?_⟩
  intro s p w released x code i row
  rw [exec_of_commandWrite released row]
  refine ⟨fun j issued => ?_, fun c ready listed => ?_, fun ready unlisted => ?_⟩
  · rw [State.writeCommand_of_issued issued]
    rfl
  · rw [State.writeCommand_of_code ready listed, ← listed]
    rfl
  · rw [State.writeCommand_of_unlisted ready unlisted, Window.rejectCode_eq]
    rfl

end Sys2Proof.Machine
end

section
/-! The window's locations against their statement: writes by offset (R145), STATUS and SUMMARY field by field (10.1, R143), and the
other locations that read as a field of the state. -/

namespace Sys2Proof.Machine

/-! ### Writes by offset (R145) -/

/-- The offsets that have a write of their own, as the cases of `State.busWrite`. -/
theorem plainOffset_iff (off : BitVec 6) :
    plainOffset off = true ↔ off.toNat ∉ [0x00, 0x10, 0x11, 0x12, 0x13, 0x14, 0x20, 0x21, 0x25] := by
  revert off
  decide

theorem argument_offset {off : BitVec 6} (low : 1 ≤ off.toNat) (high : off.toNat ≤ 6) :
    off = 1 ∨ off = 2 ∨ off = 3 ∨ off = 4 ∨ off = 5 ∨ off = 6 := by
  revert off
  decide

theorem plainOffset_of_argument {off : BitVec 6} (low : 1 ≤ off.toNat) (high : off.toNat ≤ 6) : plainOffset off = true := by
  revert off
  decide

theorem Words6.setArg_of_above (a : Words6) {n : Nat} (above : 6 < n) (w : Word) : a.setArg n w = a := by
  unfold Words6.setArg
  split
  case h_7 => rfl
  all_goals omega

section
variable {s : State} {p : Port} {off : BitVec 6} {w : Word}

theorem exec_registerWrite_of_plain (released : s.porAsserted = false) (plain : plainOffset off = true) :
    exec (.registerWrite p off w) s = .next (s.writePlain p off w) := by
  have other := (plainOffset_iff off).1 plain
  show s.busWrite p off w = _
  unfold State.busWrite
  split
  case h_10 => exact State.unlessPowerOn_of_released released _
  all_goals next special => exact absurd (by simp [special]) other

/-- A plain offset above ARG5 is read-only or absent: its write is ignored (R145). -/
theorem State.writePlain_of_above (above : 6 < off.toNat) : s.writePlain p off w = s := by
  simp only [State.writePlain, Words6.setArg_of_above _ above]
  exact congrArg (fun windows => { s with windows }) (s.windows.set_get p)

/-! ### Reads of single fields (R145) -/

/-- Reads are of the locations while PORn is released (R152). -/
theorem State.read_of_released (released : s.porAsserted = false) {zero location : Word} :
    (if s.porAsserted then zero else location) = location := if_neg (by simp [released])

/-- ARG0 to ARG5 read as the words that are latched next (R145). -/
theorem State.readWindow_args (released : s.porAsserted = false) (p : Port) :
    s.readWindow p 1 = (s.windows.get p).args.w0 ∧ s.readWindow p 2 = (s.windows.get p).args.w1 ∧
    s.readWindow p 3 = (s.windows.get p).args.w2 ∧ s.readWindow p 4 = (s.windows.get p).args.w3 ∧
    s.readWindow p 5 = (s.windows.get p).args.w4 ∧ s.readWindow p 6 = (s.windows.get p).args.w5 :=
  have read {location : Word} := State.read_of_released released (zero := 0) (location := location)
  ⟨read, read, read, read, read, read⟩

/-- What is stored reads back (R145). -/
theorem State.readWindow_writePlain (released : s.porAsserted = false) (low : 1 ≤ off.toNat) (high : off.toNat ≤ 6) :
    (s.writePlain p off w).readWindow p off = w := by
  obtain ⟨arg0, arg1, arg2, arg3, arg4, arg5⟩ := State.readWindow_args (s := s.writePlain p off w) released p
  have written : ((s.writePlain p off w).windows.get p).args = (s.windows.get p).args.setArg off.toNat w :=
    congrArg Window.args (PerPort.get_set_same ..)
  rw [written] at arg0 arg1 arg2 arg3 arg4 arg5
  rcases argument_offset low high with rfl | rfl | rfl | rfl | rfl | rfl
  · exact arg0
  · exact arg1
  · exact arg2
  · exact arg3
  · exact arg4
  · exact arg5

theorem State.readWindow_of_absent
    (absent : off.toNat = 0x07 ∨ 0x1A ≤ off.toNat ∧ off.toNat ≤ 0x20 ∨
      off.toNat = 0x22 ∨ off.toNat = 0x23 ∨ 0x26 ≤ off.toNat) :
    s.readWindow p off = 0 := by
  unfold State.readWindow
  split
  · rfl
  · split
    case h_29 => rfl
    all_goals omega

/-- A read of READ_DATA drives the word of its location onto the pins (R76; log 12). -/
theorem readData_of_exec_readData (released : s.porAsserted = false) {t : State} (next : exec (.readData p) s = .next t) :
    (t.windows.get p).readData = s.payloadWord p := by
  have driven (word : Word) : ((s.driveData p word).windows.get p).readData = word :=
    congrArg Window.readData (PerPort.get_set_same ..)
  have read : s.readPayload p = .next t := next
  simp only [State.readPayload, released, Bool.false_eq_true, if_false] at read
  unfold State.payloadWord
  cases readable : s.readable p with
  | none =>
    simp only [readable, Host.Outcome.next.injEq] at read
    exact read ▸ driven 0
  | some h =>
    simp only [readable] at read
    split at read
    · simp only [Host.Outcome.next.injEq] at read
      exact read ▸ driven (s.heldWord h)
    · exact absurd read (by simp)

end

/-! ### STATUS (10.1) -/

theorem PortState.code_le (x : PortState) : x.code ≤ 2 := by cases x <;> decide

theorem ResetCause.code_le (x : ResetCause) : x.code ≤ 4 := by cases x <;> decide

/-- The level as STATUS shows it: from the score at an ATTACHED port, 3 elsewhere (R129, 10.1). -/
def PortRecord.statusLevel (r : PortRecord) : Nat :=
  if r.state = .attached then (if r.score ≤ 95 then 0 else if r.score ≤ 127 then 1 else 2) else 3

theorem PortRecord.statusLevel_le (r : PortRecord) : r.statusLevel ≤ 3 := by
  unfold PortRecord.statusLevel
  split_ifs <;> decide

theorem levelOf_code (score : Nat) : (levelOf score).code = if score ≤ 95 then 0 else if score ≤ 127 then 1 else 2 := by
  have normal : score < Config.warnedScore ↔ score ≤ 95 := Nat.lt_succ_iff
  have warned : score < Config.restrictedScore ↔ score ≤ 127 := Nat.lt_succ_iff
  simp only [levelOf, normal, warned]
  split_ifs <;> rfl

theorem PortRecord.elim_level?_eq (r : PortRecord) : r.level?.elim 3 Level.code = r.statusLevel := by
  by_cases attached : r.state = .attached <;> simp [PortRecord.level?, PortRecord.statusLevel, attached, levelOf_code]

theorem State.statusWord_eq (s : State) (p : Port) :
    s.statusWord p =
      toWord ((s.windows.get p).issued.isSome.toNat + 2 * (s.ports.get p).state.code + 8 * (s.ports.get p).statusLevel +
        32 * (s.windows.get p).cause.code + 256 * (s.windows.get p).counter.toNat +
        4096 * (decide (s.device.state = .run)).toNat) := by
  rw [← PortRecord.elim_level?_eq, State.statusWord]
  cases (s.ports.get p).level? <;> rfl

/-- No field of STATUS outgrows its positions. -/
theorem State.statusWord_fields (s : State) (p : Port) :
    let status := (s.statusWord p).toNat
    status % 2 = (s.windows.get p).issued.isSome.toNat ∧
    status / 2 % 4 = (s.ports.get p).state.code ∧
    status / 8 % 4 = (s.ports.get p).statusLevel ∧
    status / 32 % 8 = (s.windows.get p).cause.code ∧
    status / 256 % 16 = (s.windows.get p).counter.toNat ∧
    status / 4096 % 2 = (decide (s.device.state = .run)).toNat := by
  have issued := (s.windows.get p).issued.isSome.toNat_le
  have state := (s.ports.get p).state.code_le
  have level := (s.ports.get p).statusLevel_le
  have cause := (s.windows.get p).cause.code_le
  have counter := (s.windows.get p).counter.isLt
  have run := (decide (s.device.state = .run)).toNat_le
  rw [State.statusWord_eq, toWord, BitVec.toNat_ofNat, Nat.mod_eq_of_lt (by omega)]
  omega

/-! ### SUMMARY (R143) -/

/-- Within the limits of R68 and R59, no field of SUMMARY outgrows its positions. -/
theorem State.summaryWord_fields {s : State} {p : Port} (queue : (s.queues.get p).length ≤ 64)
    (completions : (s.completions.get p).length ≤ 4) :
    let summary := (s.summaryWord p).toNat
    summary % 128 = (s.queues.get p).length ∧
    summary / 128 % 2 = (s.holds.get p).isSome.toNat ∧
    summary / 256 % 2 = (s.reservations.get p).isSome.toNat ∧
    summary / 512 % 8 = (s.completions.get p).length ∧
    summary / 4096 % 2 = (s.anyNew p).toNat := by
  have hold := (s.holds.get p).isSome.toNat_le
  have reservation := (s.reservations.get p).isSome.toNat_le
  have news := (s.anyNew p).toNat_le
  rw [State.summaryWord, toWord, BitVec.toNat_ofNat, Nat.mod_eq_of_lt (by omega)]
  omega

theorem State.anyNew_iff (s : State) (p : Port) :
    s.anyNew p = true ↔
      ∃ ch d b, (s.channels.get ch).defn = some d ∧ d.kind = .state ∧ d.subs.get p = some b ∧ b.new = true := by
  simp [State.anyNew, State.hasNews, State.defn?, List.any_eq_true, Option.any_eq_true]

/-! ### Bits and bytes of wider words -/

/-- A Boolean read as a bit. -/
theorem toNat_bool (b : Bool) : b.toNat = if b then 1 else 0 := by
  rw [← mul_toNat_bool, Nat.one_mul]

/-- A narrower field at the low end of a word keeps its bits; above it the word has none. -/
theorem Word.widened_bit {k : Nat} (x : BitVec k) (fits : k ≤ 16) (n : Nat) : (x.setWidth 16).getLsbD n = x.getLsbD n := by
  rw [BitVec.getLsbD_setWidth, Bool.and_eq_right_iff_imp, decide_eq_true_eq]
  exact fun isSet => (BitVec.lt_of_getLsbD isSet).trans_le fits

/-- EVENT_PRIORITY at 12h: the lower sixteen positions. -/
theorem EventUnit.lowPriorities_bit (u : EventUnit) (n : Nat) :
    (u.priority.extractLsb' 0 16).getLsbD n = (decide (n < 16) && u.priority.getLsbD n) := by
  rw [BitVec.getLsbD_extractLsb', Nat.zero_add]

/-- EVENT_PRIORITY at 13h: the upper eight positions, and nothing above them. -/
theorem EventUnit.highPriorities_bit (u : EventUnit) (n : Nat) :
    ((u.priority.extractLsb' 16 8).setWidth 16).getLsbD n = u.priority.getLsbD (16 + n) := by
  rw [Word.widened_bit _ (by decide), BitVec.getLsbD_extractLsb', Bool.and_eq_right_iff_imp, decide_eq_true_eq]
  intro isSet
  have := BitVec.lt_of_getLsbD isSet
  omega

/-- Settles O42: a write is the plain one or that of its own row; STATUS and SUMMARY are read field by field, every other location by
`State.read_of_released`. -/
theorem windowLocationsAreWrittenAndRead : Obligations.WindowLocationsAreWrittenAndRead := by
  intro s p off w released x stored
  have plain {o : BitVec 6} (h : plainOffset o = true) := exec_registerWrite_of_plain (p := p) (w := w) released h
  have argument {o : BitVec 6} {a : Words6} (h : plainOffset o = true) (replaced : x.args.setArg o.toNat w = a) :
      off = o → exec (.registerWrite p off w) s = stored a := by
    rintro rfl
    rw [plain h, ← replaced]
    rfl
  refine ⟨argument rfl rfl, argument rfl rfl, argument rfl rfl, argument rfl rfl, argument rfl rfl, argument rfl rfl,
    fun above h => ?_, rfl, rfl, rfl, rfl, rfl, rfl, rfl, rfl, fun t written low high => ?_, ?_⟩
  · rw [plain h, State.writePlain_of_above above]
  · rw [plain (plainOffset_of_argument low high), Host.Outcome.next.injEq] at written
    exact written ▸ State.readWindow_writePlain released low high
  intro r u status summary
  have read {location : Word} := State.read_of_released released (zero := 0) (location := location)
  have bit {o : BitVec 6} {word : Word} (location : s.readWindow p o = word) (n : Nat) :
      (s.readWindow p o).getLsbD n = word.getLsbD n := congrArg (BitVec.getLsbD · n) location
  obtain ⟨arg0, arg1, arg2, arg3, arg4, arg5⟩ := State.readWindow_args released p
  have statusRead : status = (s.statusWord p).toNat := congrArg BitVec.toNat read
  have summaryRead : summary = (s.summaryWord p).toNat := congrArg BitVec.toNat read
  obtain ⟨issued, state, level, cause, counter, run⟩ := s.statusWord_fields p
  rw [← statusRead] at issued state level cause counter run
  refine ⟨read.trans (BitVec.setWidth_eq_append (by decide)), arg0, arg1, arg2, arg3, arg4, arg5,
    issued.trans (toNat_bool _), state, level, cause, counter, ?_, ?_, read, read, read, read, read, read,
    fun n _ => ?_, fun n => ?_, fun n => ?_, fun n => ?_, fun n => ?_, fun queue completions => ?_, read, read, read, read, read,
    fun t taken => (readData_of_exec_readData released taken).trans read.symm, State.readWindow_of_absent⟩
  · simp only [run, toNat_bool, decide_eq_true_eq]
  · have response : s.readWindow p 0x09 = x.response.setWidth 16 := read
    rw [response, BitVec.extractLsb'_setWidth_of_le (by decide), BitVec.extractLsb'_eq_self]
  · exact (bit read n).trans (Word.widened_bit u.pending (by decide) n)
  · exact (bit read n).trans (Word.widened_bit u.enable (by decide) n)
  · exact (bit read n).trans (u.lowPriorities_bit n)
  · exact (bit read n).trans (u.highPriorities_bit n)
  · exact (bit read n).trans (Word.widened_bit u.threshold (by decide) n)
  · obtain ⟨length, hold, reservation, records, news⟩ := State.summaryWord_fields queue completions
    rw [← summaryRead] at length hold reservation records news
    refine ⟨length, hold.trans (toNat_bool _), reservation.trans (toNat_bool _), records, ?_⟩
    rw [news, Bool.toNat_eq_one, State.anyNew_iff]

end Sys2Proof.Machine
end

section
/-! Device control's votes and the settings taken in CONFIG, accepted, each against its statement (R156, R157, R153, R154, R116,
R18). -/

namespace Sys2Proof.Machine

/-- An answer that a device reset may follow is posted first (R154, R157). -/
theorem exec_of_resetting {s t : State} {p : Port} {a : Words6} {c : Command} {r : Response} {w : Words6} {b : Bool}
    (h : s.issues p c a) (e : s.answerTo p a c = { state := t, response := r, results := w, resets := b }) :
    exec (c.row p) s = .next (if b = true then (t.posted p c r w).deviceReset else t.posted p c r w) := by
  rw [exec_row, State.takeCommand_of_issues _ h, e, Answer.post_posted _ p c rfl]

/-! ### The reset vote (R156, R157) -/

theorem State.votedInConfig_iff {s : State} :
    s.votedInConfig = true ↔ s.device.state = .config ∧ s.device.quorum ≤ s.voteCount := by
  rw [State.votedInConfig, Bool.and_eq_true, decide_eq_true_eq, decide_eq_true_eq]

/-- VOTE is raised at every other ATTACHED port, where the vote was clear (R156). -/
theorem State.castVote_eq (s : State) (p : Port) :
    s.castVote p =
      if (s.ports.get p).vote then s
      else ({ s with ports := s.ports.set p { s.ports.get p with vote := true } } : State).raiseAll .vote
        (Port.all.filter fun q => s.attached q && decide (q ≠ p)) := by
  have others : s.attachedPorts.filter (fun q => decide (q ≠ p)) = Port.all.filter fun q => s.attached q && decide (q ≠ p) := by
    rw [State.attachedPorts, List.filter_filter]
    exact List.filter_congr fun q _ => Bool.and_comm ..
  rw [State.castVote, others]
  rfl

theorem State.castVote_device (s : State) (p : Port) : (s.castVote p).device = s.device := by simp

/-- The authorization counter bears on no vote. -/
theorem State.withdrawVote_voteCount (s : State) (p : Port) :
    (s.withdrawVote p).voteCount = (s.updPort p fun r => { r with vote := false }).voteCount := by
  rw [State.withdrawVote]
  exact State.voteCount_congr (by simp)

section
variable {s : State} {p : Port} {a : Words6}

/-- VOTE_RESET, accepted (R156). -/
theorem State.voteResetAnswer_of_none (h : judge (s.controlChecks .voteReset p a) = none) :
    s.voteResetAnswer p a =
      { state := s.castVote p
        response := .ok
        results := { w0 := toWord (s.castVote p).voteCount, w1 := toWord s.device.quorum }
        resets := (s.castVote p).votedInConfig } := by
  have present : s.absence p = none := State.absence_of_portChecks h
  simp only [State.voteResetAnswer, present, State.castVote_device]

/-- WITHDRAW_VOTE, accepted (R156). -/
theorem State.withdrawVoteAnswer_of_none (h : judge (s.controlChecks .withdrawVote p a) = none) :
    s.withdrawVoteAnswer p a = (s.withdrawVote p).answer .ok { w0 := toWord (s.withdrawVote p).voteCount } := by
  have present : s.absence p = none := State.absence_of_portChecks h
  simp only [State.withdrawVoteAnswer, present]

end

/-- Settles O14: no check refuses; the vote is cast as `State.castVote_eq` says, and a count at Q in CONFIG is
`State.votedInConfig`. -/
theorem votesAreCastAndWithdrawn : Obligations.VotesAreCastAndWithdrawn := by
  intro s p a
  refine ⟨?_, ?_⟩
  · intro issued accepted cast t u
    have voted : s.castVote p = t := s.castVote_eq p
    have device : t.device = s.device := voted ▸ s.castVote_device p
    have answer := State.voteResetAnswer_of_none accepted
    rw [voted] at answer
    refine (exec_of_resetting (c := .voteReset) issued answer).trans ?_
    simp only [State.votedInConfig_iff, device]
    rfl
  · intro issued accepted t u
    have answer := State.withdrawVoteAnswer_of_none accepted
    rw [State.withdrawVote_voteCount] at answer
    exact exec_of_answer (c := .withdrawVote) issued answer

/-! ### START, SET_TIMEBASE, SET_QUORUM and SET_WATERMARK (R153, R116, R154, R18) -/

section
variable {s : State} {p : Port} {a : Words6}

/-- START, accepted (R153). -/
theorem State.startAnswer_of_none (h : judge (s.controlChecks .start p a) = none) :
    s.startAnswer p a = ({ s with device := { s.device with state := .run } } : State).answer .ok := by
  obtain ⟨setting, -, -⟩ := State.settingCheck_of_settingChecks h
  simp only [State.startAnswer, setting]

/-- SET_TIMEBASE, accepted (R116). -/
theorem State.setTimebaseAnswer_of_none (h : judge (s.controlChecks .setTimebase p a) = none) :
    s.setTimebaseAnswer p a =
      ({ s with time := { s.time with prescale := a.w0.toNat + 1, count := 0 } } : State).answer .ok { w0 := a.w0 } := by
  obtain ⟨setting, -, -⟩ := State.settingCheck_of_settingChecks h
  simp only [State.setTimebaseAnswer, setting]

/-- SET_QUORUM, accepted: in CONFIG, with the votes as they stand (R154). -/
theorem State.setQuorumAnswer_of_none (h : judge (s.controlChecks .setQuorum p a) = none) :
    s.setQuorumAnswer p a =
      { state := { s with device := { s.device with quorum := a.w0.toNat } }
        response := .ok
        results := { w0 := a.w0, w1 := toWord s.voteCount }
        resets := decide (a.w0.toNat ≤ s.voteCount) } := by
  obtain ⟨settings, range⟩ := judge_append_none h
  obtain ⟨setting, config, -⟩ := State.settingCheck_of_settingChecks settings
  obtain ⟨outside, -⟩ := judge_cons_none range
  have quorum : a.w0 = 2 ∨ a.w0 = 3 ∨ a.w0 = 4 := by
    have := of_decide_eq_false outside
    tauto
  have follows : ({ s with device := { s.device with quorum := a.w0.toNat } } : State).votedInConfig =
      decide (a.w0.toNat ≤ s.voteCount) := (congrArg (· && _) (decide_eq_true config)).trans (Bool.true_and _)
  rw [← follows]
  simp only [State.setQuorumAnswer, setting, if_pos quorum]
  rfl

/-- SET_WATERMARK, accepted (R18). -/
theorem State.setWatermarkAnswer_of_none (h : judge (s.poolChecks .setWatermark p a) = none) :
    s.setWatermarkAnswer p a = ({ s with watermark := a.w0.toNat } : State).answer .ok { w0 := a.w0 } := by
  obtain ⟨settings, range⟩ := judge_append_none h
  obtain ⟨setting, -, -⟩ := State.settingCheck_of_settingChecks settings
  obtain ⟨above, -⟩ := judge_cons_none range
  simp only [State.setWatermarkAnswer, setting, if_neg (of_decide_eq_false above)]

end

/-- Settles O15: no check refuses, so each answer is that of its `…Answer_of_none` lemma, posted. -/
theorem settingsAreTakenInConfig : Obligations.SettingsAreTakenInConfig := by
  intro s p a
  refine ⟨?_, ?_, ?_, ?_⟩
  · intro issued accepted
    exact exec_of_answer (c := .start) issued (State.startAnswer_of_none accepted)
  · intro issued accepted
    exact exec_of_answer (c := .setTimebase) issued (State.setTimebaseAnswer_of_none accepted)
  · intro issued accepted u
    refine (exec_of_resetting (c := .setQuorum) issued (State.setQuorumAnswer_of_none accepted)).trans ?_
    simp only [decide_eq_true_eq]
    rfl
  · intro issued accepted
    exact exec_of_answer (c := .setWatermark) issued (State.setWatermarkAnswer_of_none accepted)

end Sys2Proof.Machine
end

section
/-! PORn against its statements (R152): what it suspends while it is asserted, and the state in which its release leaves the
part. -/

namespace Sys2Proof.Machine

/-! ### While PORn is asserted (R152; log 14) -/

section
variable {s : State} (asserted : s.porAsserted = true)
include asserted

theorem State.unlessPowerOn_of_asserted (t : State) : s.unlessPowerOn t = .next s := by
  rw [State.unlessPowerOn, if_pos asserted]

/-- No command is taken. -/
theorem State.takeCommand_of_asserted (p : Port) (c : Command) (body : Words6 → Answer) : s.takeCommand p c body = .next s :=
  State.takeCommand_of_not_issues body fun _ ⟨released, _⟩ => absurd (asserted.symm.trans released) (by decide)

theorem State.fillData_of_asserted (p : Port) (w : Word) : s.fillData p w = .next s := by
  rw [State.fillData, asserted, Bool.true_or, if_pos rfl]

/-- Every write is ignored, at the locations with a rule of their own too. -/
theorem State.busWrite_of_asserted (p : Port) (off : BitVec 6) (w : Word) : s.busWrite p off w = .next s := by
  unfold State.busWrite
  split
  case h_7 => exact State.fillData_of_asserted asserted p w
  all_goals exact State.unlessPowerOn_of_asserted asserted _

/-- The engine starts, places and ends nothing. -/
theorem exec_fanOutStart_of_asserted : exec .fanOutStart s = .next s := by
  have idle : s.fanOutReady = none := by rw [State.fanOutReady, asserted, Bool.true_or, if_pos rfl]
  show execFanOutStart s = _
  rw [execFanOutStart, idle]

theorem exec_placementEvent_of_asserted : exec .placementEvent s = .next s := by
  have idle : s.placementReady = none := by rw [State.placementReady, if_pos asserted]
  show execPlacementEvent s = _
  rw [execPlacementEvent, idle]

theorem exec_fanOutEnd_of_asserted : exec .fanOutEnd s = .next s := by
  have idle : s.endReady = none := by rw [State.endReady, if_pos asserted]
  show execFanOutEnd s = _
  rw [execFanOutEnd, idle]

theorem State.readWindow_of_asserted (p : Port) (off : BitVec 6) : s.readWindow p off = 0 := by
  rw [State.readWindow, if_pos asserted]

theorem State.interrupt_of_asserted (p : Port) : s.interrupt p = false := by
  rw [State.interrupt, asserted, Bool.not_true, Bool.false_and, Bool.false_and]

theorem exec_readData_of_asserted (p : Port) : exec (.readData p) s = .next (s.driveData p 0) := if_pos asserted

theorem exec_tickCount_of_asserted (p : Port) (h : Half) : exec (.tickCount p h) s = .next (s.driveData p 0) :=
  congrArg _ (if_pos asserted)

/-- The rows that PORn suspends: every command, write and event but its own two rows and the reads with an effect (log 14). -/
theorem exec_of_asserted {i : Instr} (reset : i ≠ .powerOnReset) (release : i ≠ .pornRelease) (read : ∀ p, i ≠ .readData p)
    (ticks : ∀ p h, i ≠ .tickCount p h) : exec i s = .next s := by
  cases i with
  | powerOnReset => exact absurd rfl reset
  | pornRelease => exact absurd rfl release
  | readData p => exact absurd rfl (read p)
  | tickCount p h => exact absurd rfl (ticks p h)
  | fillData p w => exact State.fillData_of_asserted asserted p w
  | registerWrite p off w => exact State.busWrite_of_asserted asserted p off w
  | fanOutStart => exact exec_fanOutStart_of_asserted asserted
  | placementEvent => exact exec_placementEvent_of_asserted asserted
  | fanOutEnd => exact exec_fanOutEnd_of_asserted asserted
  | commandIssue | collision | unknownCommand | fillPointer | readPointer | eventPending | eventEnable | eventPriority
  | threshold | portReset | baseTick | refclkCycle | lifetimeExpiry | leaseExpiry | coolDownExpiry | authorizationExpiry
  | faultScoreReport => exact State.unlessPowerOn_of_asserted asserted _
  | attach p | detach p | queryPort p | voteReset p | withdrawVote p | start p | setGeometry p | setTimebase p | setQuorum p
  | setWatermark p | queryDevice p | reserve p | abandon p | publish p | collect p | take p | done p | discard p | readState p
  | queryQueue p | acquire p | release p | renew p | cancelWait p | queryLock p | defineChannel p | setChannel p | subscribe p
  | unsubscribe p | suspend p | resume p | close p | freezeChannel p | setLease p | freezeLock p | queryChannel p
  | querySubscription p => exact State.takeCommand_of_asserted asserted p _ _

end

/-- Settles O5: reads by their `…_of_asserted` lemmas, every other row by `exec_of_asserted`. -/
theorem assertedPornSuspendsThePart : Obligations.AssertedPornSuspendsThePart := by
  intro s
  refine ⟨rfl, fun asserted => ⟨fun p off => ⟨?_, ?_⟩, fun p => ?_, fun p h => ?_, fun i => ?_⟩⟩
  · exact State.readWindow_of_asserted asserted p off
  · exact State.interrupt_of_asserted asserted p
  · exact exec_readData_of_asserted asserted p
  · exact exec_tickCount_of_asserted asserted p h
  · exact exec_of_asserted asserted

/-! ### The state after power-on reset -/

/-- PORn asserted, with its release at the front of the queue. -/
def State.awaitingRelease : State := ({ State.reset with pending := [.pornRelease] } : State).powerOn

/-- The state after power-on reset is what the release of PORn makes of the power-on values (R152; log 11). -/
theorem step_awaitingRelease : step State.awaitingRelease = .next State.reset := rfl

theorem State.powerOn_payloadCanonical (s : State) : s.powerOn.PayloadCanonical := State.payloadCanonical_of_nil rfl

/-- Settles O52: power-on leaves every invariant satisfied (the `State.powerOn_…` lemmas), and the step that releases PORn keeps
each of them. -/
theorem resetStateIsSound : Obligations.ResetStateIsSound := by
  have payload : State.awaitingRelease.PayloadCanonical := State.powerOn_payloadCanonical _
  have range : State.awaitingRelease.InRange := State.powerOn_inRange _
  have locks : State.awaitingRelease.LocksInOrder := State.powerOn_locksInOrder _
  have ports : ∀ p, State.awaitingRelease.PortInOrder p := State.powerOn_inOrder _
  have queues : State.awaitingRelease.QueuesWithinLimits := State.powerOn_queuesWithinLimits _
  have within : State.awaitingRelease.WithinGeometry := State.powerOn_within _
  have pool : State.awaitingRelease.PoolSound := (State.powerOn_balanced _).poolSound
  obtain ⟨absent, credits⟩ := State.portsInOrder_iff.2 ports
  obtain ⟨absent, credits⟩ := everyStepKeepsCreditsAndAbsentPorts _ _ absent credits step_awaitingRelease
  exact ⟨everyStepKeepsThePayloadCanonical _ _ payload step_awaitingRelease,
    everyStepKeepsSettingsInRange _ _ range step_awaitingRelease,
    everyStepKeepsTheLocksInOrder _ _ locks step_awaitingRelease, credits, absent,
    everyStepKeepsQueuesWithinLimits _ _ queues step_awaitingRelease,
    everyStepKeepsWithinTheGeometry _ _ within step_awaitingRelease,
    everyStepKeepsThePoolSound _ _ within pool step_awaitingRelease⟩

end Sys2Proof.Machine
end

section
/-! A step at the queue, and how a table of checks reads operands: the operand is none where its line holds, and a value with the rest
of the table behind it where it does not. -/

namespace Sys2Proof.Machine

/-! ### The queue (log 10) -/

theorem step_of_front {s : State} {c : Instr} {rest : List Instr} (h : s.pending = c :: rest) :
    step s = exec c { s with pending := rest } := by
  rw [step, h]

theorem step_of_empty {s : State} (h : s.pending = []) : step s = .next s := by
  rw [step, h]

/-- Settles O1: the two arms of `step`. -/
theorem stepTakesTheFrontOfTheQueue : Obligations.StepTakesTheFrontOfTheQueue :=
  ⟨fun _ _ _ h => step_of_front h, fun _ h => step_of_empty h⟩

/-! ### Lines of a table -/

section
variable {r r' : Response} {w w' : Words6} {l x : List (Bool × Response × Words6)} {A B C : Prop} [Decidable A] [Decidable B]
  [Decidable C]

/-- A line with two conditions is two lines with one answer. -/
theorem judge_cons_or : judge (on (A ∨ B) r w :: l) = judge (on A r w :: on B r w :: l) := by
  simp only [judge_cons]
  by_cases hA : A
  · simp [hA]
  · simp [hA]

theorem judge_cons_or_or : judge (on (A ∨ B ∨ C) r w :: l) = judge (on (A ∨ B) r w :: on C r w :: l) := by
  rw [judge_cons_or (A := A), judge_cons_or (A := A), judge_cons, judge_cons_or, ← judge_cons]

theorem judge_append_cons_or : judge (x ++ on (A ∨ B) r w :: l) = judge (x ++ on A r w :: on B r w :: l) := by
  rw [judge_append, judge_append, judge_cons_or]

/-- The line of an operand that is out of range decides, or the operand has a value and the rest of the table decides. -/
theorem operand_of_judge {α : Type} {o : Option α} (none_iff : o = none ↔ A)
    (h : judge (on A r' w' :: l) = some (r, w)) :
    (o = none ∧ r' = r ∧ w' = w) ∨ ∃ v, o = some v ∧ judge l = some (r, w) := by
  rcases judge_cons_some h with ⟨beyond, e⟩ | ⟨within, h⟩
  · exact .inl ⟨none_iff.2 (of_decide_eq_true beyond), e⟩
  · obtain ⟨v, hv⟩ := Option.ne_none_iff_exists'.1 fun e => of_decide_eq_false within (none_iff.1 e)
    exact .inr ⟨v, hv, h⟩

theorem map_answer_eq_some {o : Option Response} : (o.map fun r => (r, ({} : Words6))) = some (r, w) ↔ o = some r ∧ {} = w := by
  cases o <;> simp

end

/-! ### Operands that a word packs (2.5, R31) -/

theorem channelPort?_none {v : Word} : channelPort? v = none ↔ 31 < v.toNat % 256 ∨ 3 < v.toNat / 256 := by
  unfold channelPort? lowByte highByte
  rw [← channel?_none, ← portOfIndex?_none]
  cases channel? (v.toNat % 256) <;> cases Port.ofIndex? (v.toNat / 256) <;> simp

theorem bytes_of_channelPort? {v : Word} {ch : ChannelId} {q : Port} (h : channelPort? v = some (ch, q)) :
    v.toNat % 256 = ch.val ∧ v.toNat / 256 = q.index := by
  unfold channelPort? lowByte highByte at h
  split at h
  · next c p hc hp =>
    cases h
    exact ⟨val_of_channel? hc, Port.ofIndex?_eq_some.1 hp⟩
  · cases h

theorem depthPolicy?_none {v : Word} : depthPolicy? v = none ↔ 16 < v.toNat % 256 ∨ 1 < v.toNat / 256 := by
  unfold depthPolicy? lowByte highByte
  rw [← depth?_none, ← policy?_none]
  cases depth? (v.toNat % 256) <;> cases policy? (v.toNat / 256) <;> simp

/-! ### The checks that commands share -/

section
variable {s : State} {p : Port} {a : Words6} {r r' : Response} {w w' : Words6} {l : List (Bool × Response × Words6)}

theorem State.absence_of_judge (h : judge (s.portChecks p) = some (r, w)) : s.absence p = some r ∧ {} = w :=
  map_answer_eq_some.1 ((State.judge_portChecks s p).symm.trans h)

theorem State.settingCheck_of_judge (h : judge (s.settingChecks p) = some (r, w)) : s.settingCheck p = some r ∧ {} = w :=
  map_answer_eq_some.1 ((State.judge_settingChecks s p).symm.trans h)

/-- Checks 1 to 3 of R27 decide, or let the command on to its own. -/
theorem State.judge_authorityChecks_append (h : judge (s.authorityChecks p a ++ l) = some (r, w)) :
    (s.configCheck p a = some r ∧ {} = w) ∨ (s.configCheck p a = none ∧ judge l = some (r, w)) := by
  rcases judge_append_some h with h | ⟨h, rest⟩
  · exact .inl (map_answer_eq_some.1 ((State.judge_authorityChecks s p a).symm.trans h))
  · rw [State.judge_authorityChecks] at h
    exact .inr ⟨Option.map_eq_none_iff.1 h, rest⟩

/-- The line for a channel that is UNUSED. -/
theorem State.defn?_of_judge {n : Nat} {ch : ChannelId} (number : n = ch.val)
    (h : judge (on (s.channelAt n).isNone r' w' :: l) = some (r, w)) :
    (s.defn? ch = none ∧ r' = r ∧ w' = w) ∨ ∃ d, s.defn? ch = some d ∧ judge l = some (r, w) := by
  rw [number, State.channelAt_val] at h
  rcases judge_cons_some h with ⟨unused, e⟩ | ⟨used, h⟩
  · exact .inl ⟨Option.isNone_iff_eq_none.1 unused, e⟩
  · obtain ⟨d, defined⟩ := Option.isSome_iff_exists.1 (Option.isNone_eq_false_iff.1 used)
    exact .inr ⟨d, defined, h⟩

/-- The line for a port without a record on the channel. -/
theorem State.sub_of_judge {n k : Nat} {ch : ChannelId} {q : Port} {d : ChannelDef} (number : n = ch.val) (port : k = q.index)
    (defined : s.defn? ch = some d) (h : judge (on (s.subAt n k).isNone r' w' :: l) = some (r, w)) :
    (d.subs.get q = none ∧ r' = r ∧ w' = w) ∨ ∃ b, d.subs.get q = some b ∧ judge l = some (r, w) := by
  rw [number, port, State.subAt_val, State.sub?, defined, Option.bind_some] at h
  rcases judge_cons_some h with ⟨absent, e⟩ | ⟨present, h⟩
  · exact .inl ⟨Option.isNone_iff_eq_none.1 absent, e⟩
  · obtain ⟨b, record⟩ := Option.isSome_iff_exists.1 (Option.isNone_eq_false_iff.1 present)
    exact .inr ⟨b, record, h⟩

end

end Sys2Proof.Machine
end

section
/-! The checks of TAKE, DISCARD, DONE, QUERY_QUEUE and READ_STATE (R72, R74, R75, R79, R88). -/

namespace Sys2Proof.Machine

/-! ### ARG0 of the delivery commands (4.3) -/

theorem selector?_none {v : Word} : selector? v = none ↔ (decide (v ≠ 0xFFFF) && decide (31 < v.toNat)) = true := by
  rw [Bool.and_eq_true, decide_eq_true_iff, decide_eq_true_iff, ← channel?_none, selector?, anyWord]
  by_cases any : v = 0xFFFF
  · simp [any]
  · rw [if_neg any, Option.map_eq_none_iff]
    exact ⟨fun h => ⟨any, h⟩, fun h => h.2⟩

theorem selector?_some {v : Word} {x : Selector} (h : selector? v = some x) :
    (v = 0xFFFF ∧ x = .any) ∨ ∃ ch : ChannelId, v ≠ 0xFFFF ∧ v.toNat = ch.val ∧ x = .channel ch := by
  unfold selector? anyWord at h
  by_cases any : v = 0xFFFF
  · rw [if_pos any] at h
    cases h
    exact .inl ⟨any, rfl⟩
  · rw [if_neg any] at h
    obtain ⟨ch, hc, rfl⟩ := Option.map_eq_some_iff.1 h
    exact .inr ⟨ch, any, val_of_channel? hc, rfl⟩

section
variable {s : State} {p : Port} {a : Words6} {r r' : Response} {w w' : Words6} {l : List (Bool × Response × Words6)} {v : Word}

/-- A line about the named channel: with ANY it does not hold. -/
theorem judge_of_any {b : Bool} (any : v = 0xFFFF) (h : judge (on (decide (v ≠ 0xFFFF) && b) r' w' :: l) = some (r, w)) :
    judge l = some (r, w) := by
  subst any
  exact h

/-- A line about the named channel, where ARG0 names one. -/
theorem judge_of_named {b : Bool} (named : v ≠ 0xFFFF)
    (h : judge (on (decide (v ≠ 0xFFFF) && b) r' w' :: l) = some (r, w)) : judge (on b r' w' :: l) = some (r, w) := by
  rwa [decide_eq_true named, Bool.true_and] at h

/-- The first line about ARG0: out of range, or a selector. -/
theorem selector?_of_judge (h : judge (on (decide (v ≠ 0xFFFF) && decide (31 < v.toNat)) r' w' :: l) = some (r, w)) :
    (selector? v = none ∧ r' = r ∧ w' = w) ∨ ∃ x, selector? v = some x ∧ judge l = some (r, w) := by
  rcases judge_cons_some h with ⟨beyond, e⟩ | ⟨within, h⟩
  · exact .inl ⟨selector?_none.2 beyond, e⟩
  · obtain ⟨x, selector⟩ := Option.ne_none_iff_exists'.1 fun e => Bool.eq_false_iff.1 within (selector?_none.1 e)
    exact .inr ⟨x, selector, h⟩

/-- Orders 4 to 7 of R72, as TAKE and DISCARD share them. -/
def State.selectionChecks (s : State) (p : Port) (v : Word) : List (Bool × Response × Words6) :=
  [on (decide (v ≠ 0xFFFF) && decide (31 < v.toNat)) .badArgument,
   on (decide (v ≠ 0xFFFF) && (s.channelAt v.toNat).isNone) .noChannel,
   on (decide (v ≠ 0xFFFF) && (s.subAt v.toNat p.index).isNone) .notSubscriber,
   on (!(s.queues.get p).any (selects v)) .empty]

theorem State.queueChecks_take : s.queueChecks .take p a =
    s.runChecks p ++ on (s.holds.get p).isSome .holdFull :: s.selectionChecks p a.w0 := rfl

theorem State.queueChecks_discard : s.queueChecks .discard p a = s.runChecks p ++ s.selectionChecks p a.w0 := rfl

/-- Orders 5 and 6 of R72. -/
theorem State.selectorCheck_of_judge {x : Selector} (selector : selector? v = some x)
    (h : judge (on (decide (v ≠ 0xFFFF) && (s.channelAt v.toNat).isNone) .noChannel ::
      on (decide (v ≠ 0xFFFF) && (s.subAt v.toNat p.index).isNone) .notSubscriber :: l) = some (r, w)) :
    (s.selectorCheck p x = some r ∧ {} = w) ∨ (s.selectorCheck p x = none ∧ judge l = some (r, w)) := by
  rcases selector?_some selector with ⟨any, rfl⟩ | ⟨ch, named, number, rfl⟩
  · exact .inr ⟨rfl, judge_of_any any (judge_of_any any h)⟩
  · rcases State.defn?_of_judge number (judge_of_named named h) with ⟨unused, rfl, rfl⟩ | ⟨d, defined, h⟩
    · exact .inl ⟨by simp only [State.selectorCheck, unused], rfl⟩
    rcases State.sub_of_judge number rfl defined (judge_of_named named h) with ⟨absent, rfl, rfl⟩ | ⟨b, present, h⟩
    · exact .inl ⟨by simp [State.selectorCheck, defined, absent], rfl⟩
    · exact .inr ⟨by simp [State.selectorCheck, defined, present], h⟩

theorem State.entryJudge_of_judge (h : judge (s.selectionChecks p v) = some (r, w)) :
    s.entryJudge p v = .error r ∧ {} = w := by
  rcases selector?_of_judge h with ⟨outside, rfl, rfl⟩ | ⟨x, selector, h⟩
  · exact ⟨by simp only [State.entryJudge, outside], rfl⟩
  rcases State.selectorCheck_of_judge selector h with ⟨refused, rfl⟩ | ⟨passed, h⟩
  · exact ⟨by simp only [State.entryJudge, selector, refused], rfl⟩
  rcases judge_cons_some h with ⟨empty, rfl, rfl⟩ | ⟨-, h⟩
  · have unmatched : (s.queues.get p).find? x.matches = none := by
      rw [selects_of_selector? selector] at empty
      simpa using empty
    exact ⟨by simp only [State.entryJudge, selector, passed, unmatched], rfl⟩
  · exact absurd h judge_nil_ne_some

/-- R72: the table of TAKE. -/
theorem State.takeAnswer_of_judge (h : judge (s.queueChecks .take p a) = some (r, w)) : s.takeAnswer p a = s.answer r w := by
  rw [State.queueChecks_take] at h
  rcases State.judge_runChecks_append h with ⟨traffic, rfl⟩ | ⟨traffic, -, h⟩
  · simp only [State.takeAnswer, traffic]
  rcases judge_cons_some h with ⟨full, rfl, rfl⟩ | ⟨free, h⟩
  · simp only [State.takeAnswer, traffic, full, if_true]
  obtain ⟨refused, rfl⟩ := State.entryJudge_of_judge h
  simp only [State.takeAnswer, traffic, free, refused, Bool.false_eq_true, if_false]

/-- R74: the table of DISCARD. -/
theorem State.discardAnswer_of_judge (h : judge (s.queueChecks .discard p a) = some (r, w)) :
    s.discardAnswer p a = s.answer r w := by
  rw [State.queueChecks_discard] at h
  rcases State.judge_runChecks_append h with ⟨traffic, rfl⟩ | ⟨traffic, -, h⟩
  · simp only [State.discardAnswer, traffic]
  obtain ⟨refused, rfl⟩ := State.entryJudge_of_judge h
  simp only [State.discardAnswer, traffic, refused]

/-- R75: the table of DONE. -/
theorem State.doneAnswer_of_judge (h : judge (s.queueChecks .done p a) = some (r, w)) : s.doneAnswer p a = s.answer r w := by
  rcases State.judge_runChecks_append h with ⟨traffic, rfl⟩ | ⟨traffic, -, h⟩
  · simp only [State.doneAnswer, traffic]
  rcases judge_cons_some h with ⟨empty, rfl, rfl⟩ | ⟨-, h⟩
  · simp only [State.doneAnswer, traffic, Option.isNone_iff_eq_none.1 empty]
  · exact absurd h judge_nil_ne_some

/-- R79: the table of QUERY_QUEUE. -/
theorem State.queryQueueAnswer_of_judge (h : judge (s.queueChecks .queryQueue p a) = some (r, w)) :
    s.queryQueueAnswer p a = s.answer r w := by
  rcases State.judge_portChecks_append h with ⟨absent, rfl⟩ | ⟨present, h⟩
  · simp only [State.queryQueueAnswer, absent]
  rcases selector?_of_judge h with ⟨outside, rfl, rfl⟩ | ⟨x, -, h⟩
  · simp only [State.queryQueueAnswer, present, outside]
  · exact absurd h judge_nil_ne_some

/-! ### READ_STATE (R88) -/

/-- Orders 4 to 6 of R88, where ARG0 names a channel. -/
theorem State.stateChannelCheck_of_judge {ch : ChannelId} (named : v ≠ 0xFFFF) (number : v.toNat = ch.val)
    (h : judge (on (decide (v ≠ 0xFFFF) && (s.channelAt v.toNat).isNone) .noChannel ::
      on (decide (v ≠ 0xFFFF) && (s.subAt v.toNat p.index).isNone) .notSubscriber ::
      on (decide (v ≠ 0xFFFF) && (s.channelAt v.toNat).any fun d => d.kind = .stream) .wrongState :: l) = some (r, w)) :
    (s.stateChannelCheck p ch = some r ∧ {} = w) ∨ (s.stateChannelCheck p ch = none ∧ judge l = some (r, w)) := by
  rcases State.defn?_of_judge number (judge_of_named named h) with ⟨unused, rfl, rfl⟩ | ⟨d, defined, h⟩
  · exact .inl ⟨by simp only [State.stateChannelCheck, unused], rfl⟩
  rcases State.sub_of_judge number rfl defined (judge_of_named named h) with ⟨absent, rfl, rfl⟩ | ⟨b, present, h⟩
  · exact .inl ⟨by simp [State.stateChannelCheck, defined, absent], rfl⟩
  have kind : (s.channelAt v.toNat).any (fun d => d.kind = .stream) = decide (d.kind = .stream) := by
    rw [number, State.channelAt_val, defined, Option.any_some]
  rcases judge_cons_some (judge_of_named named h) with ⟨stream, rfl, rfl⟩ | ⟨state, h⟩
  · exact .inl ⟨by simp [State.stateChannelCheck, defined, present, of_decide_eq_true (kind.symm.trans stream)], rfl⟩
  · exact .inr ⟨by simp [State.stateChannelCheck, defined, present, of_decide_eq_false (kind.symm.trans state)], h⟩

/-- A chosen channel without a value to read is EMPTY. -/
theorem State.readChannel_of_no_value {ch : ChannelId}
    (chosen : (if v = 0xFFFF then s.nextNews p else channel? v.toNat) = some ch) (valueless : s.valueFor p v = none) :
    s.readChannel p ch = s.answer .empty := by
  unfold State.readChannel
  split
  · rfl
  next i current =>
  split
  · rfl
  next m message => cases valueless.symm.trans (State.valueFor_eq_some.2 ⟨chosen, current, message⟩)

/-- Orders 7 and 8 of R88. -/
theorem State.holdFull_or_empty_of_judge
    (h : judge [on (s.holds.get p).isSome .holdFull, on (s.valueFor p v).isNone .empty] = some (r, w)) :
    ((s.holds.get p).isSome = true ∧ .holdFull = r ∧ {} = w) ∨
      ((s.holds.get p).isSome = false ∧ s.valueFor p v = none ∧ .empty = r ∧ {} = w) := by
  rcases judge_cons_some h with full | ⟨free, h⟩
  · exact .inl full
  rcases judge_cons_some h with ⟨valueless, e⟩ | ⟨-, h⟩
  · exact .inr ⟨free, Option.isNone_iff_eq_none.1 valueless, e⟩
  · exact absurd h judge_nil_ne_some

/-- R88: the table of READ_STATE. -/
theorem State.readStateAnswer_of_judge (h : judge (s.readStateChecks p a) = some (r, w)) :
    s.readStateAnswer p a = s.answer r w := by
  unfold State.readStateAnswer
  rcases State.judge_runChecks_append h with ⟨traffic, rfl⟩ | ⟨traffic, -, h⟩
  · simp only [traffic]
  rcases selector?_of_judge h with ⟨outside, rfl, rfl⟩ | ⟨x, selector, h⟩
  · simp only [traffic, outside]
  rcases selector?_some selector with ⟨any, rfl⟩ | ⟨ch, named, number, rfl⟩
  · have h := judge_of_any any (judge_of_any any (judge_of_any any h))
    rcases State.holdFull_or_empty_of_judge h with ⟨full, rfl, rfl⟩ | ⟨free, valueless, rfl, rfl⟩
    · simp only [traffic, selector, full, if_true]
    simp only [traffic, selector, free, Bool.false_eq_true, if_false]
    cases news : s.nextNews p with
    | none => rfl
    | some ch => exact State.readChannel_of_no_value ((if_pos any).trans news) valueless
  · rcases State.stateChannelCheck_of_judge named number h with ⟨refused, rfl⟩ | ⟨passed, h⟩
    · simp only [traffic, selector, refused]
    rcases State.holdFull_or_empty_of_judge h with ⟨full, rfl, rfl⟩ | ⟨free, valueless, rfl, rfl⟩
    · simp only [traffic, selector, passed, full, if_true]
    · simp only [traffic, selector, passed, free, Bool.false_eq_true, if_false]
      exact State.readChannel_of_no_value ((if_neg named).trans (channel?_of_val number)) valueless

end

/-- Settles O8: each answer agrees with the first condition of its list that holds (the `…_of_judge` lemmas). -/
theorem deliveryAndStateChecksInOrder : Obligations.DeliveryAndStateChecksInOrder := by
  intro s p a r w
  refine ⟨fun c hc hi hj => ?_, fun hi hj => ?_⟩
  · simp only [List.mem_cons, List.not_mem_nil, or_false] at hc
    rcases hc with rfl | rfl | rfl | rfl
    · exact exec_of_judge hi (State.takeAnswer_of_judge hj)
    · exact exec_of_judge hi (State.discardAnswer_of_judge hj)
    · exact exec_of_judge hi (State.doneAnswer_of_judge hj)
    · exact exec_of_judge hi (State.queryQueueAnswer_of_judge hj)
  · exact exec_of_judge (c := .readState) hi (State.readStateAnswer_of_judge hj)

end Sys2Proof.Machine
end

section
/-! The checks of ACQUIRE, RELEASE, RENEW, CANCEL_WAIT and QUERY_LOCK (R99, R101, R105, R107, R108). -/

namespace Sys2Proof.Machine

section
variable {s : State} {p : Port} {a : Words6} {r : Response} {w : Words6}

/-- R99: the table of ACQUIRE. -/
theorem State.acquireAnswer_of_judge (h : judge (s.lockChecks .acquire p a) = some (r, w)) :
    s.acquireAnswer p a = s.answer r w := by
  unfold State.acquireAnswer
  rcases State.judge_portChecks_append h with ⟨absent, rfl⟩ | ⟨present, h⟩
  · simp only [absent]
  simp only [present, State.restricted_of_attached (State.absence_eq_none.1 present)]
  rcases judge_cons_some h with ⟨restricted, rfl, rfl⟩ | ⟨unrestricted, h⟩
  · simp only [restricted, if_true]
  simp only [unrestricted, Bool.false_eq_true, if_false]
  rcases operand_of_judge lock?_none (judge_cons_or.symm.trans h) with ⟨outside, rfl, rfl⟩ | ⟨l, lock, h⟩
  · simp only [outside]
  simp only [lock]
  rcases judge_cons_some h with ⟨mode, rfl, rfl⟩ | ⟨mode, h⟩
  · simp only [if_pos (of_decide_eq_true mode)]
  rw [if_neg (of_decide_eq_false mode)]
  rw [val_of_lock? lock, State.holderAt_val, State.grantAt_val] at h
  cases held : (s.locks.get l).grant with
  | none => simp [held, judge_cons] at h
  | some g =>
    simp only [held, Option.map_some, Option.some.injEq, Option.isSome_some, Bool.true_and, Option.getD_some] at h ⊢
    rcases judge_cons_some h with ⟨own, rfl, rfl⟩ | ⟨other, h⟩
    · exact if_pos (of_decide_eq_true own)
    rw [if_neg (of_decide_eq_false other)]
    rcases judge_cons_some h with ⟨waiting, rfl, rfl⟩ | ⟨waiting, h⟩
    · exact if_pos waiting
    rw [if_neg (Bool.eq_false_iff.1 waiting)]
    rcases judge_cons_some h with ⟨now, rfl, rfl⟩ | ⟨-, h⟩
    · exact if_pos (of_decide_eq_true now)
    · exact absurd h judge_nil_ne_some

/-- Orders 2 to 4 of R101. -/
theorem Lock.grantCheck_eq (k : Lock) (p : Port) (n : BitVec 32) :
    k.grantCheck p n =
      if k.grant.map (fun g => g.holder) = some p ∧ k.grant.map (fun g => g.number) = some n then none
      else if k.revoked = some { number := n, port := p } then some .leaseExpired
      else if k.grant.map (fun g => g.holder) = some p then some .staleGrant else some .notHolder := by
  unfold Lock.grantCheck
  cases k.grant <;> simp

/-- The table that RELEASE and RENEW share: R101 behind the port and the lock's number. -/
theorem State.grantJudge_of_judge (h : judge (s.grantChecks p a) = some (r, w)) :
    s.grantJudge p a = .error r ∧ {} = w := by
  unfold State.grantJudge
  rcases State.judge_portChecks_append h with ⟨absent, rfl⟩ | ⟨present, h⟩
  · exact ⟨by simp only [absent], rfl⟩
  rcases operand_of_judge lock?_none h with ⟨outside, rfl, rfl⟩ | ⟨l, lock, h⟩
  · exact ⟨by simp only [present, outside], rfl⟩
  rw [val_of_lock? lock, State.holderAt_val, State.numberAt_val, State.lockAt_val] at h
  simp only [present, lock, Lock.grantCheck_eq, longOf]
  rcases judge_cons_some h with ⟨expired, rfl, rfl⟩ | ⟨unexpired, h⟩
  · obtain ⟨past, revoked⟩ := of_decide_eq_true expired
    rw [if_neg past, if_pos (of_decide_eq_true revoked)]
    exact ⟨rfl, rfl⟩
  have unrevoked (past) : (s.locks.get l).revoked ≠ some { number := a.w2 ++ a.w1, port := p } :=
    fun revoked => of_decide_eq_false unexpired ⟨past, decide_eq_true revoked⟩
  rcases judge_cons_some h with ⟨other, rfl, rfl⟩ | ⟨own, h⟩
  · have other := of_decide_eq_true other
    rw [if_neg (mt And.left other), if_neg (unrevoked (mt And.left other)), if_neg other]
    exact ⟨rfl, rfl⟩
  rcases judge_cons_some h with ⟨stale, rfl, rfl⟩ | ⟨-, h⟩
  · have stale := of_decide_eq_true stale
    rw [if_neg (mt And.right stale), if_neg (unrevoked (mt And.right stale)), if_pos (not_not.1 (of_decide_eq_false own))]
    exact ⟨rfl, rfl⟩
  · exact absurd h judge_nil_ne_some

theorem State.releaseAnswer_of_judge (h : judge (s.lockChecks .release p a) = some (r, w)) :
    s.releaseAnswer p a = s.answer r w := by
  obtain ⟨refused, rfl⟩ := State.grantJudge_of_judge h
  simp only [State.releaseAnswer, refused]

theorem State.renewAnswer_of_judge (h : judge (s.lockChecks .renew p a) = some (r, w)) :
    s.renewAnswer p a = s.answer r w := by
  obtain ⟨refused, rfl⟩ := State.grantJudge_of_judge h
  simp only [State.renewAnswer, refused]

/-- R107: the table of CANCEL_WAIT. -/
theorem State.cancelWaitAnswer_of_judge (h : judge (s.lockChecks .cancelWait p a) = some (r, w)) :
    s.cancelWaitAnswer p a = s.answer r w := by
  unfold State.cancelWaitAnswer
  rcases State.judge_portChecks_append h with ⟨absent, rfl⟩ | ⟨present, h⟩
  · simp only [absent]
  rcases operand_of_judge lock?_none h with ⟨outside, rfl, rfl⟩ | ⟨l, lock, h⟩
  · simp only [present, outside]
  rw [val_of_lock? lock, State.holderAt_val, State.numberAt_val, State.lockAt_val, Option.any_some] at h
  simp only [present, lock]
  rcases judge_cons_some h with ⟨holding, rfl, rfl⟩ | ⟨notHolding, h⟩
  · obtain ⟨unlisted, own⟩ := Bool.and_eq_true_iff.1 holding
    obtain ⟨g, held, rfl⟩ := Option.map_eq_some_iff.1 (of_decide_eq_true own)
    have unlisted : g.holder ∉ (s.locks.get l).waiters := by simpa using unlisted
    simp only [if_neg unlisted, held, if_true]
    rfl
  rcases judge_cons_some h with ⟨unlisted, rfl, rfl⟩ | ⟨-, h⟩
  · rw [unlisted, Bool.true_and] at notHolding
    have unlisted : p ∉ (s.locks.get l).waiters := by simpa using unlisted
    rw [if_neg unlisted]
    cases held : (s.locks.get l).grant with
    | none => rfl
    | some g =>
      have other : g.holder ≠ p := by simpa [held] using notHolding
      exact if_neg other
  · exact absurd h judge_nil_ne_some

/-- R108: the table of QUERY_LOCK. -/
theorem State.queryLockAnswer_of_judge (h : judge (s.lockChecks .queryLock p a) = some (r, w)) :
    s.queryLockAnswer p a = s.answer r w := by
  rcases State.judge_portChecks_append h with ⟨absent, rfl⟩ | ⟨present, h⟩
  · simp only [State.queryLockAnswer, absent]
  rcases operand_of_judge lock?_none h with ⟨outside, rfl, rfl⟩ | ⟨l, -, h⟩
  · simp only [State.queryLockAnswer, present, outside]
  · exact absurd h judge_nil_ne_some

end

/-- Settles O9: each answer agrees with the first condition of its list that holds (the `…_of_judge` lemmas). -/
theorem lockChecksInOrder : Obligations.LockChecksInOrder := by
  intro s p a r w c hc hi hj
  simp only [List.mem_cons, List.not_mem_nil, or_false] at hc
  rcases hc with rfl | rfl | rfl | rfl | rfl
  · exact exec_of_judge hi (State.acquireAnswer_of_judge hj)
  · exact exec_of_judge hi (State.releaseAnswer_of_judge hj)
  · exact exec_of_judge hi (State.renewAnswer_of_judge hj)
  · exact exec_of_judge hi (State.cancelWaitAnswer_of_judge hj)
  · exact exec_of_judge hi (State.queryLockAnswer_of_judge hj)

end Sys2Proof.Machine
end

section
/-! The checks of the ten configuration commands: R27, then those of R29 to R31, R34 to R36, R39, R109 and R110. -/

namespace Sys2Proof.Machine

section
variable {s : State} {p : Port} {a : Words6} {r : Response} {w : Words6} {l : List (Bool × Response × Words6)}

/-! ### The checks that several of them share -/

/-- R27 with the channel number in ARG0. -/
theorem State.channelJudge_of_judge
    (h : judge (s.authorityChecks p a ++ on (31 < a.w0.toNat) .badArgument :: l) = some (r, w)) :
    (s.channelJudge p a = .error r ∧ {} = w) ∨
      ∃ ch : ChannelId, a.w0.toNat = ch.val ∧ s.channelJudge p a = .ok ch ∧ judge l = some (r, w) := by
  unfold State.channelJudge
  rcases State.judge_authorityChecks_append h with ⟨refused, rfl⟩ | ⟨authority, h⟩
  · exact .inl ⟨by simp only [refused], rfl⟩
  rcases operand_of_judge channel?_none h with ⟨outside, rfl, rfl⟩ | ⟨ch, channel, h⟩
  · exact .inl ⟨by simp only [authority, outside], rfl⟩
  · exact .inr ⟨ch, val_of_channel? channel, by simp only [authority, channel], h⟩

/-- UNUSED, frozen, CLOSING (R30, R31, R34). -/
theorem State.openJudge_of_judge {n : Nat} {ch : ChannelId} (number : n = ch.val)
    (h : judge (s.openChecks n ++ l) = some (r, w)) :
    (s.openJudge ch = .error r ∧ {} = w) ∨
      ∃ d, s.defn? ch = some d ∧ s.openJudge ch = .ok d ∧ judge l = some (r, w) := by
  unfold State.openJudge
  rcases State.defn?_of_judge number h with ⟨unused, rfl, rfl⟩ | ⟨d, defined, h⟩
  · exact .inl ⟨by simp only [unused], rfl⟩
  rw [number, State.frozenAt_val, State.channelAt_val, defined, Option.any_some] at h
  rcases judge_cons_some h with ⟨frozen, rfl, rfl⟩ | ⟨unfrozen, h⟩
  · exact .inl ⟨by simp only [defined, frozen, if_true], rfl⟩
  rcases judge_cons_some h with ⟨closing, rfl, rfl⟩ | ⟨notClosing, h⟩
  · exact .inl ⟨by simp [defined, unfrozen, of_decide_eq_true closing], rfl⟩
  · exact .inr ⟨d, defined, by simp [defined, unfrozen, of_decide_eq_false notClosing], h⟩

/-- R27 with the lock number in ARG0, then FROZEN: the table of SET_LEASE and FREEZE_LOCK (R109, R110). -/
theorem State.lockConfigJudge_of_judge
    (h : judge (s.authorityChecks p a ++
      [on (15 < a.w0.toNat) .badArgument, on ((s.lockAt a.w0.toNat).any fun k => k.frozen) .frozen]) = some (r, w)) :
    s.lockConfigJudge p a = .error r ∧ {} = w := by
  unfold State.lockConfigJudge
  rcases State.judge_authorityChecks_append h with ⟨refused, rfl⟩ | ⟨authority, h⟩
  · exact ⟨by simp only [refused], rfl⟩
  rcases operand_of_judge lock?_none h with ⟨outside, rfl, rfl⟩ | ⟨k, lock, h⟩
  · exact ⟨by simp only [authority, outside], rfl⟩
  rw [val_of_lock? lock, State.lockAt_val, Option.any_some] at h
  rcases judge_cons_some h with ⟨frozen, rfl, rfl⟩ | ⟨-, h⟩
  · exact ⟨by simp only [authority, lock, frozen, if_true], rfl⟩
  · exact absurd h judge_nil_ne_some

theorem State.setLeaseAnswer_of_judge (h : judge (s.configurationChecks .setLease p a) = some (r, w)) :
    s.setLeaseAnswer p a = s.answer r w := by
  obtain ⟨refused, rfl⟩ := State.lockConfigJudge_of_judge h
  simp only [State.setLeaseAnswer, refused]

theorem State.freezeLockAnswer_of_judge (h : judge (s.configurationChecks .freezeLock p a) = some (r, w)) :
    s.freezeLockAnswer p a = s.answer r w := by
  obtain ⟨refused, rfl⟩ := State.lockConfigJudge_of_judge h
  simp only [State.freezeLockAnswer, refused]

/-! ### DEFINE_CHANNEL and SET_CHANNEL -/

/-- R29: the table of DEFINE_CHANNEL. -/
theorem State.defineChannelAnswer_of_judge (h : judge (s.configurationChecks .defineChannel p a) = some (r, w)) :
    s.defineChannelAnswer p a = s.answer r w := by
  unfold State.defineChannelAnswer
  rcases State.channelJudge_of_judge (judge_append_cons_or.symm.trans h) with ⟨refused, rfl⟩ | ⟨ch, number, judged, h⟩
  · simp only [refused]
  simp only [judged]
  rcases operand_of_judge kind?_none (judge_cons_or.symm.trans h) with ⟨outside, rfl, rfl⟩ | ⟨kind, hk, h⟩
  · simp only [outside]
  rcases operand_of_judge publishers?_none h with ⟨outside, rfl, rfl⟩ | ⟨publishers, hp, h⟩
  · simp only [hk, outside]
  simp only [hk, hp]
  rw [number, State.channelAt_val] at h
  rcases judge_cons_some h with ⟨used, rfl, rfl⟩ | ⟨-, h⟩
  · obtain ⟨d, defined⟩ := Option.isSome_iff_exists.1 used
    simp only [defined]
  · exact absurd h judge_nil_ne_some

/-- R30: the table of SET_CHANNEL. -/
theorem State.setChannelAnswer_of_judge (h : judge (s.configurationChecks .setChannel p a) = some (r, w)) :
    s.setChannelAnswer p a = s.answer r w := by
  unfold State.setChannelAnswer
  rcases State.channelJudge_of_judge (judge_append_cons_or.symm.trans h) with ⟨refused, rfl⟩ | ⟨ch, number, judged, h⟩
  · simp only [refused]
  simp only [judged]
  rcases operand_of_judge publishers?_none h with ⟨outside, rfl, rfl⟩ | ⟨publishers, hp, h⟩
  · simp only [outside]
  simp only [hp]
  rw [← List.append_nil (s.openChecks _)] at h
  rcases State.openJudge_of_judge number h with ⟨refused, rfl⟩ | ⟨d, -, -, h⟩
  · simp only [refused]
  · exact absurd h judge_nil_ne_some

/-! ### SUBSCRIBE and UNSUBSCRIBE -/

/-- R31: the table of SUBSCRIBE. -/
theorem State.subscribeAnswer_of_judge (h : judge (s.configurationChecks .subscribe p a) = some (r, w)) :
    s.subscribeAnswer p a = s.answer r w := by
  unfold State.subscribeAnswer
  rcases State.judge_authorityChecks_append h with ⟨refused, rfl⟩ | ⟨authority, h⟩
  · simp only [refused]
  simp only [authority]
  rcases operand_of_judge channelPort?_none (judge_cons_or_or.symm.trans h) with ⟨outside, rfl, rfl⟩ | ⟨⟨ch, q⟩, named, h⟩
  · simp only [outside]
  rcases operand_of_judge depthPolicy?_none h with ⟨outside, rfl, rfl⟩ | ⟨⟨depth, policy⟩, packed, h⟩
  · simp only [named, outside]
  simp only [named, packed]
  rw [← List.append_nil (s.openChecks _)] at h
  rcases State.openJudge_of_judge (bytes_of_channelPort? named).1 h with ⟨refused, rfl⟩ | ⟨d, -, -, h⟩
  · simp only [refused]
  · exact absurd h judge_nil_ne_some

/-- R34: the table of UNSUBSCRIBE. -/
theorem State.unsubscribeAnswer_of_judge (h : judge (s.configurationChecks .unsubscribe p a) = some (r, w)) :
    s.unsubscribeAnswer p a = s.answer r w := by
  unfold State.unsubscribeAnswer
  rcases State.judge_authorityChecks_append h with ⟨refused, rfl⟩ | ⟨authority, h⟩
  · simp only [refused]
  simp only [authority]
  rcases operand_of_judge channelPort?_none h with ⟨outside, rfl, rfl⟩ | ⟨⟨ch, q⟩, named, h⟩
  · simp only [outside]
  simp only [named]
  obtain ⟨number, port⟩ := bytes_of_channelPort? named
  rcases State.openJudge_of_judge number h with ⟨refused, rfl⟩ | ⟨d, defined, openFor, h⟩
  · simp only [refused]
  rcases State.sub_of_judge number port defined h with ⟨absent, rfl, rfl⟩ | ⟨b, -, h⟩
  · simp only [openFor, absent]
  · exact absurd h judge_nil_ne_some

/-! ### SUSPEND, RESUME, CLOSE and FREEZE_CHANNEL -/

/-- The table that SUSPEND and RESUME share: behind R27, a defined channel in another phase than the command leaves (R35). -/
theorem State.phase_of_judge {f : ChannelDef → Bool}
    (h : judge (s.authorityChecks p a ++ [on (31 < a.w0.toNat) .badArgument, on (s.channelAt a.w0.toNat).isNone .noChannel,
      on ((s.channelAt a.w0.toNat).any f) .wrongState]) = some (r, w)) :
    (s.channelJudge p a = .error r ∧ {} = w) ∨
      ∃ ch, s.channelJudge p a = .ok ch ∧
        ((s.defn? ch = none ∧ .noChannel = r ∧ {} = w) ∨ ∃ d, s.defn? ch = some d ∧ f d = true ∧ .wrongState = r ∧ {} = w) := by
  rcases State.channelJudge_of_judge h with refused | ⟨ch, number, judged, h⟩
  · exact .inl refused
  refine .inr ⟨ch, judged, ?_⟩
  rcases State.defn?_of_judge number h with unused | ⟨d, defined, h⟩
  · exact .inl unused
  rw [number, State.channelAt_val, defined, Option.any_some] at h
  rcases judge_cons_some h with phase | ⟨-, h⟩
  · exact .inr ⟨d, defined, phase⟩
  · exact absurd h judge_nil_ne_some

theorem State.suspendAnswer_of_judge (h : judge (s.configurationChecks .suspend p a) = some (r, w)) :
    s.suspendAnswer p a = s.answer r w := by
  unfold State.suspendAnswer
  rcases State.phase_of_judge h with ⟨refused, rfl⟩ | ⟨ch, judged, ⟨unused, rfl, rfl⟩ | ⟨d, defined, phase, rfl, rfl⟩⟩
  · simp only [refused]
  · simp only [judged, unused]
  · simp only [judged, defined, if_neg (of_decide_eq_true phase)]

theorem State.resumeAnswer_of_judge (h : judge (s.configurationChecks .resume p a) = some (r, w)) :
    s.resumeAnswer p a = s.answer r w := by
  unfold State.resumeAnswer
  rcases State.phase_of_judge h with ⟨refused, rfl⟩ | ⟨ch, judged, ⟨unused, rfl, rfl⟩ | ⟨d, defined, phase, rfl, rfl⟩⟩
  · simp only [refused]
  · simp only [judged, unused]
  · simp only [judged, defined, if_neg (of_decide_eq_true phase)]

/-- R36: the table of CLOSE. -/
theorem State.closeAnswer_of_judge (h : judge (s.configurationChecks .close p a) = some (r, w)) :
    s.closeAnswer p a = s.answer r w := by
  unfold State.closeAnswer
  rcases State.channelJudge_of_judge h with ⟨refused, rfl⟩ | ⟨ch, number, judged, h⟩
  · simp only [refused]
  rcases State.defn?_of_judge number h with ⟨unused, rfl, rfl⟩ | ⟨d, defined, h⟩
  · simp only [judged, unused]
  rw [number, State.frozenAt_val] at h
  rcases judge_cons_some h with ⟨frozen, rfl, rfl⟩ | ⟨-, h⟩
  · simp only [judged, defined, frozen, if_true]
  · exact absurd h judge_nil_ne_some

/-- R39: the table of FREEZE_CHANNEL. -/
theorem State.freezeChannelAnswer_of_judge (h : judge (s.configurationChecks .freezeChannel p a) = some (r, w)) :
    s.freezeChannelAnswer p a = s.answer r w := by
  unfold State.freezeChannelAnswer
  rcases State.channelJudge_of_judge h with ⟨refused, rfl⟩ | ⟨ch, number, judged, h⟩
  · simp only [refused]
  simp only [judged]
  rw [number, State.frozenAt_val] at h
  rcases judge_cons_some h with ⟨frozen, rfl, rfl⟩ | ⟨unfrozen, h⟩
  · exact if_pos frozen
  rw [if_neg (Bool.eq_false_iff.1 unfrozen)]
  rcases State.defn?_of_judge rfl h with ⟨unused, rfl, rfl⟩ | ⟨d, defined, h⟩
  · simp only [unused]
  rw [State.channelAt_val, defined, Option.any_some] at h
  rcases judge_cons_some h with ⟨closing, rfl, rfl⟩ | ⟨-, h⟩
  · simp only [defined, if_pos (of_decide_eq_true closing)]
  · exact absurd h judge_nil_ne_some

end

/-- Settles O10: each answer agrees with the first condition of its list that holds (the `…_of_judge` lemmas). -/
theorem configurationChecksInOrder : Obligations.ConfigurationChecksInOrder := by
  intro s p a r w c hc hi hj
  simp only [List.mem_cons, List.not_mem_nil, or_false] at hc
  rcases hc with rfl | rfl | rfl | rfl | rfl | rfl | rfl | rfl | rfl | rfl
  · exact exec_of_judge hi (State.defineChannelAnswer_of_judge hj)
  · exact exec_of_judge hi (State.setChannelAnswer_of_judge hj)
  · exact exec_of_judge hi (State.subscribeAnswer_of_judge hj)
  · exact exec_of_judge hi (State.unsubscribeAnswer_of_judge hj)
  · exact exec_of_judge hi (State.suspendAnswer_of_judge hj)
  · exact exec_of_judge hi (State.resumeAnswer_of_judge hj)
  · exact exec_of_judge hi (State.closeAnswer_of_judge hj)
  · exact exec_of_judge hi (State.freezeChannelAnswer_of_judge hj)
  · exact exec_of_judge hi (State.setLeaseAnswer_of_judge hj)
  · exact exec_of_judge hi (State.freezeLockAnswer_of_judge hj)

end Sys2Proof.Machine
end

section
/-! The checks of ATTACH, DETACH and QUERY_PORT, the votes, START, SET_TIMEBASE and SET_QUORUM, and the channel queries (R126, R127,
R136, R156, R153, R116, R154, R40, R41). -/

namespace Sys2Proof.Machine

section
variable {s : State} {p : Port} {a : Words6} {r : Response} {w : Words6}

/-! ### ATTACH, DETACH and QUERY_PORT -/

/-- R126: the table of ATTACH. -/
theorem State.attachAnswer_of_judge (h : judge (s.controlChecks .attach p a) = some (r, w)) :
    s.attachAnswer p a = s.answer r w := by
  unfold State.attachAnswer
  rcases judge_cons_some h with ⟨arguments, rfl, rfl⟩ | ⟨arguments, h⟩
  · exact if_pos (of_decide_eq_true arguments)
  rw [if_neg (of_decide_eq_false arguments)]
  rcases judge_cons_some h with ⟨cooling, rfl, rfl⟩ | ⟨cooling, h⟩
  · exact if_pos (of_decide_eq_true cooling)
  rw [if_neg (of_decide_eq_false cooling)]
  rcases judge_cons_some h with ⟨attached, rfl, rfl⟩ | ⟨-, h⟩
  · exact if_pos (of_decide_eq_true attached)
  · exact absurd h judge_nil_ne_some

theorem State.detachAnswer_of_judge (h : judge (s.controlChecks .detach p a) = some (r, w)) :
    s.detachAnswer p a = s.answer r w := by
  obtain ⟨absent, rfl⟩ := State.absence_of_judge h
  simp only [State.detachAnswer, absent]

theorem queriedPort?_none {v : Word} : queriedPort? p v = none ↔ 3 < v.toNat ∧ v ≠ 0xFFFF := by
  unfold queriedPort? anyWord
  by_cases own : v = 0xFFFF
  · simp [own]
  · rw [if_neg own, portOfIndex?_none]
    exact ⟨fun h => ⟨h, own⟩, fun h => h.1⟩

/-- R136: the table of QUERY_PORT. -/
theorem State.queryPortAnswer_of_judge (h : judge (s.controlChecks .queryPort p a) = some (r, w)) :
    s.queryPortAnswer p a = s.answer r w := by
  unfold State.queryPortAnswer
  rcases operand_of_judge (queriedPort?_none (p := p)) (judge_cons_or.symm.trans h) with ⟨outside, rfl, rfl⟩ | ⟨q, named, h⟩
  · simp only [outside]
  rcases judge_cons_some h with ⟨page, rfl, rfl⟩ | ⟨-, h⟩
  · have beyond : 1 < a.w1.toNat := of_decide_eq_true page
    have notFirst : a.w1 ≠ 0 := fun e => absurd beyond (by rw [e]; decide)
    have notSecond : a.w1 ≠ 1 := fun e => absurd beyond (by rw [e]; decide)
    simp only [named, if_neg notFirst, if_neg notSecond]
  · exact absurd h judge_nil_ne_some

/-! ### The votes, START, SET_TIMEBASE and SET_QUORUM -/

theorem State.voteResetAnswer_of_judge (h : judge (s.controlChecks .voteReset p a) = some (r, w)) :
    s.voteResetAnswer p a = s.answer r w := by
  obtain ⟨absent, rfl⟩ := State.absence_of_judge h
  simp only [State.voteResetAnswer, absent]

theorem State.withdrawVoteAnswer_of_judge (h : judge (s.controlChecks .withdrawVote p a) = some (r, w)) :
    s.withdrawVoteAnswer p a = s.answer r w := by
  obtain ⟨absent, rfl⟩ := State.absence_of_judge h
  simp only [State.withdrawVoteAnswer, absent]

theorem State.startAnswer_of_judge (h : judge (s.controlChecks .start p a) = some (r, w)) :
    s.startAnswer p a = s.answer r w := by
  obtain ⟨refused, rfl⟩ := State.settingCheck_of_judge h
  simp only [State.startAnswer, refused]

theorem State.setTimebaseAnswer_of_judge (h : judge (s.controlChecks .setTimebase p a) = some (r, w)) :
    s.setTimebaseAnswer p a = s.answer r w := by
  obtain ⟨refused, rfl⟩ := State.settingCheck_of_judge h
  simp only [State.setTimebaseAnswer, refused]

/-- R154: the table of SET_QUORUM. -/
theorem State.setQuorumAnswer_of_judge (h : judge (s.controlChecks .setQuorum p a) = some (r, w)) :
    s.setQuorumAnswer p a = s.answer r w := by
  unfold State.setQuorumAnswer
  rcases State.judge_settingChecks_append h with ⟨refused, rfl⟩ | ⟨check, h⟩
  · simp only [refused]
  rcases judge_cons_some h with ⟨beyond, rfl, rfl⟩ | ⟨-, h⟩
  · obtain ⟨notTwo, notThree, notFour⟩ := of_decide_eq_true beyond
    simp only [check, if_neg (not_or.2 ⟨notTwo, not_or.2 ⟨notThree, notFour⟩⟩)]
  · exact absurd h judge_nil_ne_some

/-! ### QUERY_CHANNEL and QUERY_SUBSCRIPTION -/

/-- R40: the table of QUERY_CHANNEL. -/
theorem State.queryChannelAnswer_of_judge (h : judge (s.controlChecks .queryChannel p a) = some (r, w)) :
    s.queryChannelAnswer p a = s.answer r w := by
  rcases State.judge_portChecks_append h with ⟨absent, rfl⟩ | ⟨present, h⟩
  · simp only [State.queryChannelAnswer, absent]
  rcases operand_of_judge channel?_none h with ⟨outside, rfl, rfl⟩ | ⟨ch, -, h⟩
  · simp only [State.queryChannelAnswer, present, outside]
  · exact absurd h judge_nil_ne_some

/-- R41: the table of QUERY_SUBSCRIPTION. -/
theorem State.querySubscriptionAnswer_of_judge (h : judge (s.controlChecks .querySubscription p a) = some (r, w)) :
    s.querySubscriptionAnswer p a = s.answer r w := by
  unfold State.querySubscriptionAnswer
  rcases State.judge_portChecks_append h with ⟨absent, rfl⟩ | ⟨present, h⟩
  · simp only [absent]
  rcases operand_of_judge channelPort?_none (judge_cons_or_or.symm.trans h) with ⟨outside, rfl, rfl⟩ | ⟨⟨ch, q⟩, named, h⟩
  · simp only [present, outside]
  simp only [present, named]
  rcases judge_cons_some h with ⟨request, rfl, rfl⟩ | ⟨-, h⟩
  · have refused : 1 < a.w1.toNat ∨ (a.w1 = 1 ∧ q ≠ p) := by
      refine (of_decide_eq_true request).imp_right fun ⟨clears, other⟩ => ⟨clears, fun own => other ?_⟩
      rw [(bytes_of_channelPort? named).2, own]
    exact if_pos refused
  · exact absurd h judge_nil_ne_some

end

/-- Settles O11: each answer agrees with the first condition of its list that holds (the `…_of_judge` lemmas). -/
theorem controlChecksInOrder : Obligations.ControlChecksInOrder := by
  intro s p a r w c hc hi hj
  simp only [List.mem_cons, List.not_mem_nil, or_false] at hc
  rcases hc with rfl | rfl | rfl | rfl | rfl | rfl | rfl | rfl | rfl | rfl
  · exact exec_of_judge hi (State.attachAnswer_of_judge hj)
  · exact exec_of_judge hi (State.detachAnswer_of_judge hj)
  · exact exec_of_judge hi (State.queryPortAnswer_of_judge hj)
  · exact exec_of_judge hi (State.voteResetAnswer_of_judge hj)
  · exact exec_of_judge hi (State.withdrawVoteAnswer_of_judge hj)
  · exact exec_of_judge hi (State.startAnswer_of_judge hj)
  · exact exec_of_judge hi (State.setTimebaseAnswer_of_judge hj)
  · exact exec_of_judge hi (State.setQuorumAnswer_of_judge hj)
  · exact exec_of_judge hi (State.queryChannelAnswer_of_judge hj)
  · exact exec_of_judge hi (State.querySubscriptionAnswer_of_judge hj)

end Sys2Proof.Machine
end
